-- ==== Sys2Proof/Word.lean ====
section
/-! DEFINITION. The byte, the bus word, and the two fixed byte groupings of the spec:
four bytes (a word of the key schedule, a column of a block) and sixteen bytes (a block). -/

namespace Sys2Proof

/-- An 8-bit unsigned value 0–255 (00_scope.md R7). -/
abbrev Byte := BitVec 8

/-- A 32-bit bus word (20_memory.md R95). -/
abbrev Word := BitVec 32

/-- Four bytes in order: a key-schedule word `[a0, a1, a2, a3]` (41_key_schedule.md R200), or one
column of a block, row r in `a<r>` (00_scope.md R8). -/
@[ext] structure Quad where
  a0 : Byte
  a1 : Byte
  a2 : Byte
  a3 : Byte
deriving DecidableEq, Repr, Inhabited

/-- A 16-byte block, column-major (00_scope.md R8): column c in `c<c>`, so that byte `r + 4*c` is
row r of column c. -/
@[ext] structure Block where
  c0 : Quad
  c1 : Quad
  c2 : Quad
  c3 : Quad
deriving DecidableEq, Repr, Inhabited

end Sys2Proof
end

