-- ==== Sys2Proof/Config.lean ====
section
/-! DEFINITION. What an implementation fixes (the size of the message buffer) and the free values:
the constants without a body that stand for what no rule of the spec constrains. -/

namespace Sys2Proof

/-- The three variants of the cipher a key length selects (00_scope.md R6). -/
inductive Variant where
  | aes128
  | aes192
  | aes256
deriving DecidableEq, Repr

/-- DESIGN CHOICE, safe (log entry 1). MSG_BYTES is an `OPEN` parameter with the default 4096
(00_scope.md R5); State holds MSG_BYTES/16 − 1, so that every value of the field is a legal size
(a multiple of 16 from 16 to 32768). This is the default, 4096/16 − 1. -/
def Config.defaultMsgUnits : Fin 2048 := 255

/-- FREE VALUE (log entry 5): the `n`th byte the entropy source gives after those State lists
(10_state.md R57: "a free draw"). -/
opaque Config.entropyByte (n : Nat) : Byte

/-- FREE VALUE (log entry 6): byte `o` of MSG after the `epoch`th reset (70_reset_and_hazards.md R413). -/
opaque Config.msgResetByte (epoch o : Nat) : Byte

/-- FREE VALUE (log entry 7): byte `o` of TRACE after the `epoch`th reset (93_implementation_defined.md U3). -/
opaque Config.traceResetByte (epoch o : Nat) : Byte

/-- FREE VALUE (log entry 8): the round-key RAM after the `epoch`th reset (93_implementation_defined.md U2). -/
opaque Config.rkReset (epoch : Nat) : Vector Block 15

/-- FREE VALUE (log entry 9): the working block W after the `epoch`th reset (93_implementation_defined.md U4). -/
opaque Config.wReset (epoch : Nat) : Block

/-- FREE VALUE (log entry 9): the chaining block PREV after the `epoch`th reset (93_implementation_defined.md U4). -/
opaque Config.prevReset (epoch : Nat) : Block

end Sys2Proof
end

