-- ==== Sys2Proof/Machine/State.lean ====
section
/-! DEFINITION. The state of the machine as plain data (10_state.md R30), what a step may report
(60_exceptions.md R370), the events of the outside world (20_memory.md R101, R108), and the state
after reset (70_reset_and_hazards.md R411). -/

namespace Sys2Proof.Machine

open Sys2Proof

/-- The error a command may end with (60_exceptions.md R371). Codes 12–15 are reserved and have no
constructor. -/
inductive CmdError where
  | invalidKeyLength
  | invalidIVLength
  | invalidBlockLength
  | invalidCiphertextLength
  /-- Reserved for hex text, which host software converts; never raised (00_scope.md R4). -/
  | invalidHexInput
  | emptyInput
  | invalidPadding
  | decryptFailed
  | illegalCommand
  | messageTooLong
  | invalidRoundIndex
deriving DecidableEq, Repr

/-- A buffer of bytes by offset: the written bytes only, as (offset, byte) cells with strictly rising
offsets. An unlisted offset holds no written value (log entries 6 and 7). -/
abbrev Memory := List Host.Cell

/-- The entropy source as the core sees it (10_state.md R57, 20_memory.md R91). `offered` are the
bytes it has offered and the core has not yet taken, first byte first. When they are used up,
`flowing` says whether further bytes come (the fairness premise of 70_reset_and_hazards.md R422):
if so, the next one is the free value `Config.entropyByte drawn`. -/
structure Entropy where
  offered : List Byte
  flowing : Bool
  drawn : Nat
deriving DecidableEq, Repr

/-- What happens to the core from outside it, and the completion of its running command, each one
atomic event (20_memory.md R92, R101, R108; 45_system.md R351; 70_reset_and_hazards.md R410). -/
inductive Event where
  /-- `BusRead(a)`. -/
  | busRead (addr : BitVec 20)
  /-- `BusWrite(a, d)`. -/
  | busWrite (addr : BitVec 20) (data : Word)
  /-- The core completes the running command here (log entry 3). -/
  | complete
  /-- `Reset`. -/
  | reset
  /-- The entropy source offers one more byte. -/
  | entropy (byte : Byte)
  /-- One byte moves from the source to the core, if `ent_valid` = `ent_ready` = 1 (20_memory.md R91). -/
  | draw
deriving DecidableEq, Repr

/-- The answer of a read: `bus_rdata` and `bus_err` (20_memory.md R91, R92). -/
structure ReadAnswer where
  data : Word
  err : Bool
deriving DecidableEq, Repr

/-- The answer of a bus transaction. A write's is `bus_err` alone: `bus_rdata` is valid for reads only
(20_memory.md R91). -/
inductive BusAnswer where
  | read (answer : ReadAnswer)
  | write (err : Bool)
deriving DecidableEq, Repr

/-- The machine. Field by field: 10_state.md R30; the last five are the model's own (INVENTORY.md). -/
structure State where
  /-- CUR, the command word accepted last, read through CMD (R32, R56). -/
  cur : Word
  /-- STATUS.BUSY, the sequencer's phase (R33, R54). -/
  busy : Bool
  /-- STATUS.DONE (R34). -/
  done : Bool
  /-- STATUS.WERR (R36). -/
  werr : Bool
  /-- STATUS.ERRCODE, `none` for 0; STATUS.ERR is whether it is there (R35). -/
  error : Option CmdError
  /-- STATUS.KEY_VALID is whether it is there, STATUS.NR its number of rounds, else 0 (R37). -/
  schedule : Option Variant
  /-- CFG.KEYLEN (R38). -/
  keyLen : BitVec 8
  /-- CFG.IVLEN (R38). -/
  ivLen : BitVec 8
  /-- CFG.TRACE_EN (R38). -/
  traceEn : Bool
  /-- MSGLEN bits 15:0 (R39). -/
  msgLen : BitVec 16
  /-- IRQEN.DONE_IE (R49). -/
  doneIe : Bool
  /-- BLKCNT.BLOCKS (R50). -/
  blocks : BitVec 16
  /-- BLKCNT.TRCNT (R50). -/
  trcnt : BitVec 16
  /-- KEY[0..31]: bytes 4i..4i+3 in group i (R40). -/
  key : Vector Quad 8
  /-- IV[0..15] (R41). -/
  iv : Block
  /-- STATE[0..15] (R42). -/
  stateReg : Block
  /-- RK[0..14] (R43). -/
  rk : Vector Block 15
  /-- MSG: the written bytes of the message buffer (R45). -/
  msg : Memory
  /-- TRACE: the written bytes of the trace buffer (R46). -/
  trace : Memory
  /-- W, the working block (R55). -/
  w : Block
  /-- PREV, the chaining block (R55). -/
  prev : Block
  /-- PARAM: MSG_BYTES/16 − 1, fixed for a machine (R51; log entry 1). -/
  msgUnits : Fin 2048
  /-- How many resets lie behind this state: the index of the reset draws (log entry 10). -/
  resets : Nat
  /-- The entropy source (R57; log entry 5). -/
  entropy : Entropy
  /-- The entropy bytes the running command has drawn and not yet used, first byte first (R57,
  70_reset_and_hazards.md R412, R418; log entry 11). -/
  taken : List Byte
  /-- The events to come, the next one first (20_memory.md R101; log entry 4). -/
  pending : List Event
  /-- The answer of the last bus transaction (20_memory.md R92; log entry 14). -/
  answer : Option BusAnswer
deriving DecidableEq, Repr

/-- Faults: none. "The core never traps" (60_exceptions.md R370), and every command ends by
completion; no step of this machine raises a fault. -/
inductive Fault where
deriving DecidableEq, Repr

/-- Refusals. -/
inductive Refusal where
  /-- An instruction without a meaning: raised by no arm of exec, since every command has its
  meaning; safe, were it raised. The interface asks for it. -/
  | notModelled (mnemonic : String)
deriving DecidableEq, Repr

/-- What a step answers. -/
abbrev Result := Host.Outcome State Fault Refusal

/-- Sixteen 0x00 bytes. -/
def zeroBlock : Block := ⟨⟨0, 0, 0, 0⟩, ⟨0, 0, 0, 0⟩, ⟨0, 0, 0, 0⟩, ⟨0, 0, 0, 0⟩⟩

/-- The values of 70_reset_and_hazards.md R411, for a machine with the given MSG_BYTES, after its
`epoch`th reset, beside a given entropy source and given events to come (which reset does not touch). -/
def State.afterReset (msgUnits : Fin 2048) (epoch : Nat) (entropy : Entropy)
    (pending : List Event) : State where
  cur := 0
  busy := false
  done := false
  werr := false
  error := none
  schedule := none
  keyLen := 0
  ivLen := 0
  traceEn := false
  msgLen := 0
  doneIe := false
  blocks := 0
  trcnt := 0
  key := Vector.replicate 8 ⟨0, 0, 0, 0⟩
  iv := zeroBlock
  stateReg := zeroBlock
  rk := Config.rkReset epoch
  msg := []
  trace := []
  w := Config.wReset epoch
  prev := Config.prevReset epoch
  msgUnits := msgUnits
  resets := epoch
  entropy := entropy
  taken := []
  pending := pending
  answer := none

/-- The machine right after reset: MSG_BYTES at its default (log entry 1), no reset before this one
(log entry 10), an entropy source that always offers a byte (log entry 5), no event to come
(log entry 4). -/
def State.reset : State :=
  State.afterReset Config.defaultMsgUnits 0 ⟨[], true, 0⟩ []

end Sys2Proof.Machine
end

