-- ==== Sys2Proof/Machine/Operands.lean ====
section
/-! DEFINITION. Operand forms: bytes in blocks and groups of four, the byte lanes of the bus
(20_memory.md R94), byte-wise XOR, the variant a key length selects (00_scope.md R6), and the
operands commands take from CFG and MSGLEN (30_encoding.md R132). -/

namespace Sys2Proof

/-- Byte-wise XOR of two words of four bytes (41_key_schedule.md R200). -/
def Quad.xor (x y : Quad) : Quad := ⟨x.a0 ^^^ y.a0, x.a1 ^^^ y.a1, x.a2 ^^^ y.a2, x.a3 ^^^ y.a3⟩

/-- `X ⊕ Y`, the byte-wise XOR of two blocks (00_scope.md R8). -/
def Block.xor (x y : Block) : Block :=
  ⟨x.c0.xor y.c0, x.c1.xor y.c1, x.c2.xor y.c2, x.c3.xor y.c3⟩

/-- Apply a function of a byte to each of four bytes. -/
def Quad.map (f : Byte → Byte) (q : Quad) : Quad := ⟨f q.a0, f q.a1, f q.a2, f q.a3⟩

/-- Apply a function of a column to each of the four columns. -/
def Block.mapColumns (f : Quad → Quad) (b : Block) : Block := ⟨f b.c0, f b.c1, f b.c2, f b.c3⟩

/-- The four bytes in order. -/
def Quad.bytes (q : Quad) : List Byte := [q.a0, q.a1, q.a2, q.a3]

/-- The sixteen bytes in order, byte 0 first (00_scope.md R8). Irreducible, so that comparing two states
never evaluates a store of these bytes; the lemmas of Sys2Proof/Laws/Blocks.lean say what it is. -/
@[irreducible] def Block.bytes (b : Block) : List Byte := b.c0.bytes ++ b.c1.bytes ++ b.c2.bytes ++ b.c3.bytes

/-- Bytes o..o+3 of a byte sequence (a byte past its end is 0). -/
def Quad.ofBytes (bs : List Byte) (o : Nat) : Quad :=
  ⟨bs.getD o 0, bs.getD (o + 1) 0, bs.getD (o + 2) 0, bs.getD (o + 3) 0⟩

/-- The first sixteen bytes of a byte sequence as a block, byte i in row i mod 4 of column i div 4
(00_scope.md R8; a byte past its end is 0). -/
def Block.ofBytes (bs : List Byte) : Block :=
  ⟨Quad.ofBytes bs 0, Quad.ofBytes bs 4, Quad.ofBytes bs 8, Quad.ofBytes bs 12⟩

/-- Row r (r = 0..3) of a column. -/
def Quad.row (q : Quad) : Nat → Byte
  | 0 => q.a0
  | 1 => q.a1
  | 2 => q.a2
  | _ => q.a3

/-- Column c (c = 0..3) of a block. -/
def Block.column (b : Block) : Nat → Quad
  | 0 => b.c0
  | 1 => b.c1
  | 2 => b.c2
  | _ => b.c3

/-- Byte i (i = 0..15) of a block: row i mod 4 of column i div 4 (00_scope.md R8). -/
def Block.byte (b : Block) (i : Nat) : Byte := (b.column (i / 4)).row (i % 4)

/-- The block with column c (c = 0..3) replaced. -/
def Block.setColumn (b : Block) (c : Nat) (q : Quad) : Block :=
  match c with
  | 0 => { b with c0 := q }
  | 1 => { b with c1 := q }
  | 2 => { b with c2 := q }
  | _ => { b with c3 := q }

/-- The bus word of four window bytes: "byte 4k+j in bits 8j+7:8j" (20_memory.md R94). -/
def Quad.toWord (q : Quad) : Word := q.a3 ++ q.a2 ++ q.a1 ++ q.a0

/-- The four window bytes of a bus word (20_memory.md R94). -/
def Quad.ofWord (d : Word) : Quad :=
  ⟨d.extractLsb' 0 8, d.extractLsb' 8 8, d.extractLsb' 16 8, d.extractLsb' 24 8⟩

/-- The variant of a key length in bytes; none for an illegal length (00_scope.md R6). -/
def Variant.ofKeyLen (n : BitVec 8) : Option Variant :=
  if n = 16 then some .aes128
  else if n = 24 then some .aes192
  else if n = 32 then some .aes256
  else none

/-- The key length in bytes (00_scope.md R6). -/
def Variant.keyBytes : Variant → Nat
  | .aes128 => 16
  | .aes192 => 24
  | .aes256 => 32

/-- Nk, the key's words (00_scope.md R6). -/
def Variant.nk : Variant → Nat
  | .aes128 => 4
  | .aes192 => 6
  | .aes256 => 8

/-- Nr, the rounds (00_scope.md R6). -/
def Variant.nr : Variant → Nat
  | .aes128 => 10
  | .aes192 => 12
  | .aes256 => 14

namespace Machine

/-- MSG_BYTES (00_scope.md R5): a multiple of 16 from 16 to 32768 (log entry 1). -/
def State.msgBytes (s : State) : Nat := 16 * (s.msgUnits.val + 1)

/-- MSGLEN as a number. -/
def State.msgLength (s : State) : Nat := s.msgLen.toNat

/-- `n`, the number of pad bytes for a message of L bytes: 16 − (L mod 16) (44_padding.md R330). -/
def padCount (length : Nat) : Nat := 16 - length % 16

/-- `P`, the padded length of the message in MSG (43_cbc_controller.md R282, 44_padding.md R333). -/
def State.paddedLength (s : State) : Nat := s.msgLength + padCount s.msgLength

/-- `STATUS.NR` as a number: the rounds of the held schedule, 0 when none is held (10_state.md R37). -/
def State.nr (s : State) : Nat :=
  match s.schedule with
  | some v => v.nr
  | none => 0

/-- Round key r. RK[r] exists for r = 0..14 (10_state.md R43); no command and no view reads another,
so the default is never used (log entry 19). -/
def roundKey (rk : Vector Block 15) (r : Nat) : Block := rk[r]?.getD zeroBlock

/-- KEY[j] for j = 0..31 (10_state.md R40). -/
def State.keyByte (s : State) (j : Nat) : Byte := (s.key[j / 4]?.getD ⟨0, 0, 0, 0⟩).row (j % 4)

end Machine

end Sys2Proof
end

