-- ==== Sys2Proof/Machine/Flags.lean ====
section
/-! DEFINITION. The status, configuration and count words as the host reads them (10_state.md
R33–R39, R49–R51), what a host write does to STATUS, CFG, MSGLEN and IRQEN, and the two output
levels of the core (60_exceptions.md R380; 70_reset_and_hazards.md R418). -/

namespace Sys2Proof.Machine

open Sys2Proof

/-- The numeric code of an error (60_exceptions.md R371). -/
def CmdError.code : CmdError → BitVec 4
  | .invalidKeyLength => 1
  | .invalidIVLength => 2
  | .invalidBlockLength => 3
  | .invalidCiphertextLength => 4
  | .invalidHexInput => 5
  | .emptyInput => 6
  | .invalidPadding => 7
  | .decryptFailed => 8
  | .illegalCommand => 9
  | .messageTooLong => 10
  | .invalidRoundIndex => 11

/-- STATUS.ERRCODE: the code of the last completed command, 0 for none (10_state.md R35). -/
def State.errCode (s : State) : BitVec 4 :=
  match s.error with
  | some e => e.code
  | none => 0

/-- STATUS.ERR "equals (ERRCODE ≠ 0) at all times" (10_state.md R35). -/
def State.err (s : State) : Bool := s.errCode != 0

/-- STATUS.KEY_VALID (10_state.md R37). -/
def State.keyValid (s : State) : Bool := s.schedule.isSome

/-- The STATUS word: NR in 19:16, ERRCODE in 11:8, KEY_VALID 4, WERR 3, ERR 2, DONE 1, BUSY 0;
reserved bits read 0 (10_state.md R33). -/
def State.statusWord (s : State) : Word :=
  0#12 ++ BitVec.ofNat 4 s.nr ++ 0#4 ++ s.errCode ++ 0#3 ++ BitVec.ofBool s.keyValid ++
    BitVec.ofBool s.werr ++ BitVec.ofBool s.err ++ BitVec.ofBool s.done ++ BitVec.ofBool s.busy

/-- The CFG word: TRACE_EN in 16, IVLEN in 15:8, KEYLEN in 7:0 (10_state.md R38). -/
def State.cfgWord (s : State) : Word := 0#15 ++ BitVec.ofBool s.traceEn ++ s.ivLen ++ s.keyLen

/-- The MSGLEN word (10_state.md R39). -/
def State.msgLenWord (s : State) : Word := 0#16 ++ s.msgLen

/-- The IRQEN word (10_state.md R49). -/
def State.irqEnWord (s : State) : Word := 0#31 ++ BitVec.ofBool s.doneIe

/-- The BLKCNT word: TRCNT in 31:16, BLOCKS in 15:0 (10_state.md R50). -/
def State.blkCntWord (s : State) : Word := s.trcnt ++ s.blocks

/-- The PARAM word: MSG_BYTES (10_state.md R51). -/
def State.paramWord (s : State) : Word := BitVec.ofNat 32 s.msgBytes

/-- The ID word (10_state.md R31). -/
def idWord : Word := 0x41455343

/-- STATUS.KEY_VALID <- 0 and STATUS.NR <- 0 (41_key_schedule.md R207). -/
def State.invalidate (s : State) : State := { s with schedule := none }

/-- A host write to STATUS: DONE and WERR are write-1-to-clear, nothing else changes (10_state.md R33). -/
def State.writeStatus (s : State) (d : Word) : State :=
  { s with done := s.done && !d.getLsbD 1, werr := s.werr && !d.getLsbD 3 }

/-- A host write to CFG (10_state.md R38); a KEYLEN that differs from the current one clears
KEY_VALID (41_key_schedule.md R207 (b)). -/
def State.writeCfg (s : State) (d : Word) : State :=
  let keyLen := d.extractLsb' 0 8
  let kept := if keyLen = s.keyLen then s else s.invalidate
  { kept with keyLen := keyLen, ivLen := d.extractLsb' 8 8, traceEn := d.getLsbD 16 }

/-- A host write to MSGLEN: bits 15:0 (10_state.md R39). -/
def State.writeMsgLen (s : State) (d : Word) : State := { s with msgLen := d.extractLsb' 0 16 }

/-- A host write to IRQEN: bit 0 (10_state.md R49). -/
def State.writeIrqEn (s : State) (d : Word) : State := { s with doneIe := d.getLsbD 0 }

/-- `irq = STATUS.DONE & IRQEN.DONE_IE` (60_exceptions.md R380). -/
def State.irq (s : State) : Bool := s.done && s.doneIe

end Sys2Proof.Machine
end

