-- ==== Sys2Proof/Machine/Ops.lean ====
section
/-! DEFINITION. The named operations of 00_scope.md R10: the buffers (`MemRead`, `MemWrite`,
`TraceWrite`), the entropy input (`draw8`), acceptance, and the two ways a command ends: `complete`
(45_system.md R351) and `raise`, the one operation that takes an error (60_exceptions.md R374). -/

namespace Sys2Proof.Machine

open Sys2Proof

/-! ### The buffers as lists of cells -/

/-- The written value at an offset, if there is one. -/
def Memory.find (m : Memory) (a : Nat) : Option Byte :=
  match m with
  | [] => none
  | (k, b) :: rest => if k = a then some b else Memory.find rest a

/-- Write one byte, keeping the offsets strictly rising. -/
def Memory.write (m : Memory) (a : Nat) (b : Byte) : Memory :=
  match m with
  | [] => [(a, b)]
  | (k, c) :: rest =>
    if a < k then (a, b) :: (k, c) :: rest
    else if a = k then (a, b) :: rest
    else (k, c) :: Memory.write rest a b

/-- Write a sequence of bytes, the first at offset `a` (20_memory.md R103). -/
def Memory.writeBytes (m : Memory) (a : Nat) (bs : List Byte) : Memory :=
  match bs with
  | [] => m
  | b :: rest => Memory.writeBytes (Memory.write m a b) (a + 1) rest

/-- Every byte of a buffer of the given size written with 0x00. -/
def Memory.zeroed (size : Nat) : Memory := (List.range size).map fun a => (a, 0)

/-- All cells lie at or above `lo` and below `size`, with strictly rising offsets. -/
def Memory.risingFrom (size : Nat) : Nat → Memory → Bool
  | _, [] => true
  | lo, (k, _) :: rest => decide (lo ≤ k) && decide (k < size) && Memory.risingFrom size (k + 1) rest

/-- The canonical form of a buffer of the given size. No cell can equal what an unlisted offset
reads as, since an unlisted offset holds no written value (log entry 6). -/
def Memory.wf (size : Nat) (m : Memory) : Bool := Memory.risingFrom size 0 m

/-! ### The message buffer and the trace buffer -/

/-- MSG[o]: the written byte, else its reset draw (10_state.md R45, 70_reset_and_hazards.md R413). -/
def State.msgByte (s : State) (o : Nat) : Byte :=
  (s.msg.find o).getD (Config.msgResetByte s.resets o)

/-- TRACE[o]: the written byte, else its reset draw (10_state.md R46; log entry 7). -/
def State.traceByte (s : State) (o : Nat) : Byte :=
  (s.trace.find o).getD (Config.traceResetByte s.resets o)

/-- `MemRead(o, n)` (00_scope.md R10, 20_memory.md R103). -/
def State.memRead (s : State) (o n : Nat) : List Byte :=
  (List.range n).map fun j => s.msgByte (o + j)

/-- `MemRead(o, 16)` as a block. -/
def State.memReadBlock (s : State) (o : Nat) : Block := Block.ofBytes (s.memRead o 16)

/-- `MemWrite(o, n, v)` for the n bytes of v (00_scope.md R10, 20_memory.md R103). -/
def State.memWrite (s : State) (o : Nat) (bs : List Byte) : State :=
  { s with msg := s.msg.writeBytes o bs }

/-- `TraceWrite(k, a, b, c)`: record k occupies TRACE[48k..48k+47] (43_cbc_controller.md R287). -/
def State.traceWrite (s : State) (k : Nat) (a b c : Block) : State :=
  { s with trace := s.trace.writeBytes (48 * k) (a.bytes ++ b.bytes ++ c.bytes) }

/-! ### The entropy input -/

/-- The next byte of the source's stream and the source without it, or none when it offers no byte
(10_state.md R57). -/
def Entropy.draw (e : Entropy) : Option (Byte × Entropy) :=
  match e.offered with
  | b :: rest => some (b, { e with offered := rest })
  | [] => if e.flowing then some (Config.entropyByte e.drawn, { e with drawn := e.drawn + 1 }) else none

/-- `n` bytes of the stream, the first byte first, or none when the source stops before. -/
def Entropy.drawMany (e : Entropy) : Nat → Option (List Byte × Entropy)
  | 0 => some ([], e)
  | n + 1 =>
    match e.draw with
    | none => none
    | some (b, e1) =>
      match Entropy.drawMany e1 n with
      | none => none
      | some (bs, e2) => some (b :: bs, e2)

/-- `ent_valid`: the source offers a byte (20_memory.md R91). -/
def Entropy.valid (e : Entropy) : Bool := e.draw.isSome

/-- The source offers one more byte. While it flows, its free bytes come after the ones listed, so a
byte offered later goes to the end of the list. -/
def Entropy.offer (e : Entropy) (b : Byte) : Entropy := { e with offered := e.offered ++ [b] }

/-- One byte moves from the source to the running command (20_memory.md R91: `ent_valid` = `ent_ready` = 1);
nothing when the source offers none. -/
def State.takeByte (s : State) : State :=
  match s.entropy.draw with
  | none => s
  | some (b, e) => { s with entropy := e, taken := s.taken ++ [b] }

/-- `n` calls of `draw8()` in a command's rule: the bytes the command has drawn, the first byte drawn first,
and the state with them used up; none while not all of them have arrived (45_system.md R351,
70_reset_and_hazards.md R418). -/
def State.draws (s : State) (n : Nat) : Option (List Byte × State) :=
  if n ≤ s.taken.length then some (s.taken.take n, { s with taken := s.taken.drop n }) else none

/-! ### How a command begins and ends -/

/-- `Accept(w)` (45_system.md R350). The command has drawn no byte yet. -/
def State.accept (s : State) (w : Word) : State :=
  { s with cur := w, done := false, error := none, busy := true, taken := [] }

/-- `complete()` (45_system.md R351). -/
def State.complete (s : State) : State := { s with busy := false, done := true }

/-- `raise E`: the one way an error is taken (60_exceptions.md R374). There is no handler and no
return from it (R376). -/
def State.raise (s : State) (e : CmdError) : State :=
  { s with error := some e, busy := false, done := true }

end Sys2Proof.Machine
end

