-- ==== Sys2Proof/Machine/KeySchedule.lean ====
section
/-! DEFINITION. The key schedule (41_key_schedule.md R200–R207) and the commands KEY_EXPAND (R208)
and GEN_KEY (R209). -/

namespace Sys2Proof

/-- `RotWord` (41_key_schedule.md R201). -/
def rotWord (q : Quad) : Quad := ⟨q.a1, q.a2, q.a3, q.a0⟩

/-- `SubWord` (41_key_schedule.md R202). -/
def subWord (q : Quad) : Quad := q.map sbox

/-- The word XORed with the one Nk back to give word i: its predecessor t, transformed as
41_key_schedule.md R203 says for index i. -/
def scheduleTransform (nk i : Nat) (t : Quad) : Quad :=
  if i % nk = 0 then
    let u := subWord (rotWord t)
    { u with a0 := u.a0 ^^^ rcon (i / nk) }
  else if 6 < nk ∧ i % nk = 4 then subWord t
  else t

/-- `w[i]` of a word list (log entry 19: an index past the end is never read). -/
def wordAt (w : List Quad) (i : Nat) : Quad := w.getD i ⟨0, 0, 0, 0⟩

/-- The next word of a schedule whose words so far are `w[0..i-1]`, i ≥ Nk (41_key_schedule.md R203). -/
def nextWord (nk : Nat) (w : List Quad) : Quad :=
  (scheduleTransform nk w.length (wordAt w (w.length - 1))).xor (wordAt w (w.length - nk))

/-- `n` further words of a schedule (the second loop of 41_key_schedule.md R203). -/
def extendWords (nk : Nat) : Nat → List Quad → List Quad
  | 0, w => w
  | n + 1, w => extendWords nk n (w ++ [nextWord nk w])

/-- `expandKey(K)` for the first Nk words of the KEY register: 4·(Nr+1) words (41_key_schedule.md R203). -/
def expandKey (v : Variant) (key : Vector Quad 8) : List Quad :=
  extendWords v.nk (4 * (v.nr + 1) - v.nk) (key.toList.take v.nk)

/-- `RoundKey(w, r)` (41_key_schedule.md R204). -/
def roundKeyOf (w : List Quad) (r : Nat) : Block :=
  ⟨wordAt w (4 * r), wordAt w (4 * r + 1), wordAt w (4 * r + 2), wordAt w (4 * r + 3)⟩

/-- The round-key RAM after `Expand()`: RK[0..Nr] hold the schedule, RK[Nr+1..14] are not written
(41_key_schedule.md R205). -/
def scheduleRam (v : Variant) (key : Vector Quad 8) (old : Vector Block 15) : Vector Block 15 :=
  let w := expandKey v key
  Vector.ofFn fun r => if r.val ≤ v.nr then roundKeyOf w r.val else old[r]

namespace Machine

/-- `Expand()`: KEY_VALID <- 1 and NR <- Nr with the schedule (41_key_schedule.md R205). -/
def State.expand (s : State) (v : Variant) : State :=
  { s with rk := scheduleRam v s.key s.rk, schedule := some v }

/-- `EnsureKey()`, for the variant `CheckKey()` found (41_key_schedule.md R206). -/
def State.ensureKey (s : State) (v : Variant) : State :=
  match s.schedule with
  | some _ => s
  | none => s.expand v

/-- `CheckKey()` before the rest of a command: an illegal CFG.KEYLEN ends the command with
`InvalidKeyLength` (41_key_schedule.md R206), a legal one gives its variant to the rest. -/
def State.checkKey (s : State) (rest : Variant → Result) : Result :=
  match Variant.ofKeyLen s.keyLen with
  | none => .next (s.raise .invalidKeyLength)
  | some v => rest v

/-- KEY_EXPAND: expand, "always, even when KEY_VALID = 1" (41_key_schedule.md R208). -/
def execKeyExpand (s : State) : Result :=
  s.checkKey fun v => .next (s.expand v).complete

/-- KEY[0..KEYLEN−1] from the drawn bytes, KEY[KEYLEN..31] zero (41_key_schedule.md R209). -/
def keyOfBytes (bs : List Byte) : Vector Quad 8 := Vector.ofFn fun i => Quad.ofBytes bs (4 * i.val)

/-- GEN_KEY (41_key_schedule.md R209). While not all of its bytes have arrived the command holds: nothing
changes (70_reset_and_hazards.md R418). -/
def execGenKey (s : State) : Result :=
  s.checkKey fun v =>
    match s.draws v.keyBytes with
    | none => .next s
    | some (bs, s1) =>
      .next ({ s1 with key := keyOfBytes (bs ++ List.replicate (32 - v.keyBytes) 0) }.invalidate).complete

end Machine

end Sys2Proof
end

