-- ==== Sys2Proof/Machine/BlockTransform.lean ====
section
/-! DEFINITION. The four primitives and their inverses, the block functions (42_block_transform.md
R230–R239), the seven single-stage commands on STATE (R241–R247) and ENC_BLOCK and DEC_BLOCK
(R248, R249). -/

namespace Sys2Proof

/-! ### The primitives -/

/-- `SubBytes(s)` (42_block_transform.md R230). -/
def subBytes (s : Block) : Block := s.mapColumns (Quad.map sbox)

/-- `InvSubBytes(s)` (42_block_transform.md R231). -/
def invSubBytes (s : Block) : Block := s.mapColumns (Quad.map invSbox)

/-- `ShiftRows(s)`: row r rotated left by r, `ShiftRows(s)[r,c] = s[r, (c + r) mod 4]`
(42_block_transform.md R232). -/
def shiftRows (s : Block) : Block :=
  ⟨⟨s.c0.a0, s.c1.a1, s.c2.a2, s.c3.a3⟩, ⟨s.c1.a0, s.c2.a1, s.c3.a2, s.c0.a3⟩,
   ⟨s.c2.a0, s.c3.a1, s.c0.a2, s.c1.a3⟩, ⟨s.c3.a0, s.c0.a1, s.c1.a2, s.c2.a3⟩⟩

/-- `InvShiftRows(s)`: row r rotated right by r, `InvShiftRows(s)[r,c] = s[r, (c − r) mod 4]`
(42_block_transform.md R233). -/
def invShiftRows (s : Block) : Block :=
  ⟨⟨s.c0.a0, s.c3.a1, s.c2.a2, s.c1.a3⟩, ⟨s.c1.a0, s.c0.a1, s.c3.a2, s.c2.a3⟩,
   ⟨s.c2.a0, s.c1.a1, s.c0.a2, s.c3.a3⟩, ⟨s.c3.a0, s.c2.a1, s.c1.a2, s.c0.a3⟩⟩

/-- One column of `MixColumns`, coefficients [2, 3, 1, 1] (42_block_transform.md R234). -/
def mixColumn (q : Quad) : Quad :=
  ⟨mul2 q.a0 ^^^ mul3 q.a1 ^^^ q.a2 ^^^ q.a3,
   q.a0 ^^^ mul2 q.a1 ^^^ mul3 q.a2 ^^^ q.a3,
   q.a0 ^^^ q.a1 ^^^ mul2 q.a2 ^^^ mul3 q.a3,
   mul3 q.a0 ^^^ q.a1 ^^^ q.a2 ^^^ mul2 q.a3⟩

/-- One column of `InvMixColumns`, coefficients [14, 11, 13, 9] (42_block_transform.md R235). -/
def invMixColumn (q : Quad) : Quad :=
  ⟨mul14 q.a0 ^^^ mul11 q.a1 ^^^ mul13 q.a2 ^^^ mul9 q.a3,
   mul9 q.a0 ^^^ mul14 q.a1 ^^^ mul11 q.a2 ^^^ mul13 q.a3,
   mul13 q.a0 ^^^ mul9 q.a1 ^^^ mul14 q.a2 ^^^ mul11 q.a3,
   mul11 q.a0 ^^^ mul13 q.a1 ^^^ mul9 q.a2 ^^^ mul14 q.a3⟩

/-- `MixColumns(s)` (42_block_transform.md R234). -/
def mixColumns (s : Block) : Block := s.mapColumns mixColumn

/-- `InvMixColumns(s)` (42_block_transform.md R235). -/
def invMixColumns (s : Block) : Block := s.mapColumns invMixColumn

/-- `AddRoundKey(s, k)` (42_block_transform.md R236). -/
def addRoundKey (s k : Block) : Block := s.xor k

/-! ### The block functions -/

/-- One round of encryption (42_block_transform.md R237). -/
def encryptRound (k s : Block) : Block := addRoundKey (mixColumns (shiftRows (subBytes s))) k

/-- One round of decryption (42_block_transform.md R238). -/
def decryptRound (k s : Block) : Block := invMixColumns (addRoundKey (invSubBytes (invShiftRows s)) k)

/-- Rounds 1..n of encryption, in that order. -/
def encryptRounds (rk : Vector Block 15) : Nat → Block → Block
  | 0, s => s
  | n + 1, s => encryptRound (Machine.roundKey rk (n + 1)) (encryptRounds rk n s)

/-- Rounds n..1 of decryption, in that order. -/
def decryptRounds (rk : Vector Block 15) : Nat → Block → Block
  | 0, s => s
  | n + 1, s => decryptRounds rk n (decryptRound (Machine.roundKey rk (n + 1)) s)

/-- `BlockEncrypt(b)` with the round keys RK[0..Nr] (42_block_transform.md R237). -/
def blockEncrypt (rk : Vector Block 15) (nr : Nat) (b : Block) : Block :=
  let s := encryptRounds rk (nr - 1) (addRoundKey b (Machine.roundKey rk 0))
  addRoundKey (shiftRows (subBytes s)) (Machine.roundKey rk nr)

/-- `BlockDecrypt(b)` with the round keys RK[0..Nr] (42_block_transform.md R238; the order of the
steps is the explicit list, 90_conflicts.md C2). -/
def blockDecrypt (rk : Vector Block 15) (nr : Nat) (b : Block) : Block :=
  let s := decryptRounds rk (nr - 1) (addRoundKey b (Machine.roundKey rk nr))
  addRoundKey (invSubBytes (invShiftRows s)) (Machine.roundKey rk 0)

namespace Machine

/-- `BlockEncrypt` with the held schedule, Nr = STATUS.NR (42_block_transform.md R237). -/
def State.encrypt (s : State) (b : Block) : Block := blockEncrypt s.rk s.nr b

/-- `BlockDecrypt` with the held schedule, Nr = STATUS.NR (42_block_transform.md R238). -/
def State.decrypt (s : State) (b : Block) : Block := blockDecrypt s.rk s.nr b

/-! ### The single-stage commands -/

/-- STATE <- f(STATE); complete (the shape of 42_block_transform.md R241–R246). -/
def State.applyStage (s : State) (f : Block → Block) : State :=
  { s with stateReg := f s.stateReg }.complete

/-- SUBBYTES (42_block_transform.md R241). -/
def execSubBytes (s : State) : Result := .next (s.applyStage subBytes)

/-- INV_SUBBYTES (42_block_transform.md R242). -/
def execInvSubBytes (s : State) : Result := .next (s.applyStage invSubBytes)

/-- SHIFTROWS (42_block_transform.md R243). -/
def execShiftRows (s : State) : Result := .next (s.applyStage shiftRows)

/-- INV_SHIFTROWS (42_block_transform.md R244). -/
def execInvShiftRows (s : State) : Result := .next (s.applyStage invShiftRows)

/-- MIXCOLUMNS (42_block_transform.md R245). -/
def execMixColumns (s : State) : Result := .next (s.applyStage mixColumns)

/-- INV_MIXCOLUMNS (42_block_transform.md R246). -/
def execInvMixColumns (s : State) : Result := .next (s.applyStage invMixColumns)

/-- ADDROUNDKEY rk: the key check, then the round-index check, then the XOR (42_block_transform.md R247). -/
def execAddRoundKey (rk : Nat) (s : State) : Result :=
  s.checkKey fun v =>
    if v.nr < rk then .next (s.raise .invalidRoundIndex)
    else
      let s1 := s.ensureKey v
      .next (s1.applyStage fun b => addRoundKey b (roundKey s1.rk rk))

/-! ### The single-block commands -/

/-- The execute part of ENC_BLOCK and DEC_BLOCK after `EnsureKey()`: W <- MemRead(0, 16), W <- f(W),
MemWrite(0, 16, W) (42_block_transform.md R248, R249). -/
def State.transformBlock (s : State) (f : State → Block → Block) : State :=
  let w := f s (s.memReadBlock 0)
  (({ s with w := w }).memWrite 0 w.bytes).complete

/-- The checks of ENC_BLOCK and DEC_BLOCK, key then block length, before the execute part
(42_block_transform.md R248, R249). -/
def State.singleBlock (s : State) (f : State → Block → Block) : Result :=
  s.checkKey fun v =>
    if s.msgLength ≠ 16 then .next (s.raise .invalidBlockLength)
    else .next ((s.ensureKey v).transformBlock f)

/-- ENC_BLOCK (42_block_transform.md R248). -/
def execEncBlock (s : State) : Result := s.singleBlock State.encrypt

/-- DEC_BLOCK (42_block_transform.md R249). -/
def execDecBlock (s : State) : Result := s.singleBlock State.decrypt

end Machine

end Sys2Proof
end

