-- ==== Sys2Proof/Machine/Padding.lean ====
section
/-! DEFINITION. The PKCS#7 padding unit and the padding validator (44_padding.md R330, R331) and the
commands PAD (R333) and UNPAD (R334). -/

namespace Sys2Proof

/-- The pad bytes for a message of L bytes: n bytes of value n (44_padding.md R330). -/
def padBytes (length : Nat) : List Byte :=
  List.replicate (Machine.padCount length) (BitVec.ofNat 8 (Machine.padCount length))

/-- `pad(data)` (44_padding.md R330). -/
def pad (data : List Byte) : List Byte := data ++ padBytes data.length

/-- How `unpad` fails (44_padding.md R331). -/
inductive PadFailure where
  | emptyInput
  | invalidPadding
deriving DecidableEq, Repr

/-- `unpad(data)`, the padding validator: the data without its padding, and the pad length
(44_padding.md R331). -/
def unpad (data : List Byte) : Except PadFailure (List Byte × Nat) :=
  match data.getLast? with
  | none => .error .emptyInput
  | some last =>
    let n := last.toNat
    if n = 0 ∨ 16 < n ∨ data.length < n then .error .invalidPadding
    else if (data.drop (data.length - n)).all (· == last) then .ok (data.take (data.length - n), n)
    else .error .invalidPadding

namespace Machine

/-- MSGLEN <- n. -/
def State.setMsgLength (s : State) (n : Nat) : State := { s with msgLen := BitVec.ofNat 16 n }

/-- MemWrite(L, n, n repeated n times): the pad bytes after the message (43_cbc_controller.md R282,
44_padding.md R333). -/
def State.writePadding (s : State) : State := s.memWrite s.msgLength (padBytes s.msgLength)

/-- PAD (44_padding.md R333). -/
def execPad (s : State) : Result :=
  if s.msgBytes < s.paddedLength then .next (s.raise .messageTooLong)
  else .next (s.writePadding.setMsgLength s.paddedLength).complete

/-- UNPAD (44_padding.md R334). The message is not empty after the first check, so the validator's
own `EmptyInput` cannot occur; it would end the command with that error. -/
def execUnpad (s : State) : Result :=
  if s.msgLength = 0 then .next (s.raise .emptyInput)
  else if s.msgBytes < s.msgLength then .next (s.raise .messageTooLong)
  else
    match unpad (s.memRead 0 s.msgLength) with
    | .error .emptyInput => .next (s.raise .emptyInput)
    | .error .invalidPadding => .next (s.raise .invalidPadding)
    | .ok (_, n) => .next (s.setMsgLength (s.msgLength - n)).complete

end Machine

end Sys2Proof
end

