-- ==== Sys2Proof/Machine/Cbc.lean ====
section
/-! DEFINITION. The CBC mode controller: IV selection (43_cbc_controller.md R280, R281), CBC_ENC
(R282), CBC_DEC (R284) with its failure (R285), the step trace (R286, R287), and GEN_IV (R289). -/

namespace Sys2Proof.Machine

open Sys2Proof

/-- IV[0..15] <- sixteen draws, IV[0] first, or none while not all of them have arrived
(43_cbc_controller.md R280, R289). -/
def State.drawIv (s : State) : Option State :=
  match s.draws 16 with
  | none => none
  | some (bs, s1) => some { s1 with iv := Block.ofBytes bs }

/-- `SelectIV()`: draw an IV when CFG.IVLEN = 0 (43_cbc_controller.md R280). -/
def State.selectIv (s : State) : Option State := if s.ivLen = 0 then s.drawIv else some s

/-- `body k`, `body (k+1)`, … for `n` blocks in increasing order (43_cbc_controller.md R283). -/
def forBlocks (body : Nat → State → State) : Nat → Nat → State → State
  | 0, _, s => s
  | n + 1, k, s => forBlocks body n (k + 1) (body k s)

/-- TraceWrite when CFG.TRACE_EN = 1, nothing otherwise (43_cbc_controller.md R286). -/
def State.traceIfEnabled (s : State) (k : Nat) (a b c : Block) : State :=
  if s.traceEn then s.traceWrite k a b c else s

/-- Block k of CBC_ENC's loop (43_cbc_controller.md R282). -/
def cbcEncBlock (k : Nat) (s : State) : State :=
  let p := s.memReadBlock (16 * k)
  let x := p.xor s.prev
  let c := s.encrypt x
  { (s.traceIfEnabled k p x c).memWrite (16 * k) c.bytes with prev := c }

/-- Block k of CBC_DEC's loop (43_cbc_controller.md R284). -/
def cbcDecBlock (k : Nat) (s : State) : State :=
  let c := s.memReadBlock (16 * k)
  let d := s.decrypt c
  let p := d.xor s.prev
  { (s.traceIfEnabled k c p d).memWrite (16 * k) p.bytes with prev := c }

/-- PREV <- IV[0..15]. -/
def State.startChain (s : State) : State := { s with prev := s.iv }

/-- BLKCNT.BLOCKS <- n and BLKCNT.TRCNT <- (TRACE_EN = 1) ? n : 0 (43_cbc_controller.md R282, R284). -/
def State.setBlockCount (s : State) (n : Nat) : State :=
  { s with
    blocks := BitVec.ofNat 16 n
    trcnt := if s.traceEn then BitVec.ofNat 16 n else 0 }

/-- CBC_ENC's execute part after `SelectIV()`: pad, chain the padded message, and the final
register writes, CFG.IVLEN <- 0 among them (43_cbc_controller.md R281, R282). -/
def State.cbcEncrypt (s : State) : State :=
  let n := s.paddedLength / 16
  let chained := forBlocks cbcEncBlock n 0 s.writePadding.startChain
  ({ chained.setMsgLength s.paddedLength with ivLen := 0 }.setBlockCount n).complete

/-- CBC_ENC (43_cbc_controller.md R282). While not all bytes of an IV that is to be drawn have arrived, the
command holds: nothing changes (70_reset_and_hazards.md R418). -/
def execCbcEnc (s : State) : Result :=
  s.checkKey fun v =>
    if s.ivLen ≠ 0 ∧ s.ivLen ≠ 16 then .next (s.raise .invalidIVLength)
    else if s.msgBytes < s.paddedLength then .next (s.raise .messageTooLong)
    else
      match (s.ensureKey v).selectIv with
      | none => .next s
      | some s1 => .next s1.cbcEncrypt

/-- `DecryptFail(L)`: scrub the message and, when it was traced, the trace; MSGLEN and BLKCNT 0;
raise DecryptFailed (43_cbc_controller.md R285). -/
def State.decryptFail (s : State) (length : Nat) : State :=
  let scrubbed := s.memWrite 0 (List.replicate length 0)
  let traceScrubbed :=
    if s.traceEn then
      { scrubbed with trace := scrubbed.trace.writeBytes 0 (List.replicate (3 * length) 0) }
    else scrubbed
  { traceScrubbed with msgLen := 0, blocks := 0, trcnt := 0 }.raise .decryptFailed

/-- CBC_DEC's execute part after `EnsureKey()`: chain, then validate and strip the padding
(43_cbc_controller.md R284). Any failure of the validator is the one generic failure (R285). -/
def State.cbcDecrypt (s : State) : State :=
  let length := s.msgLength
  let chained := forBlocks cbcDecBlock (length / 16) 0 s.startChain
  match unpad (chained.memRead 0 length) with
  | .error _ => chained.decryptFail length
  | .ok (_, n) => ((chained.setMsgLength (length - n)).setBlockCount (length / 16)).complete

/-- CBC_DEC (43_cbc_controller.md R284). -/
def execCbcDec (s : State) : Result :=
  s.checkKey fun v =>
    if s.ivLen ≠ 16 then .next (s.raise .invalidIVLength)
    else if s.msgLength = 0 ∨ s.msgLength % 16 ≠ 0 then .next (s.raise .invalidCiphertextLength)
    else if s.msgBytes < s.msgLength then .next (s.raise .messageTooLong)
    else .next (s.ensureKey v).cbcDecrypt

/-- GEN_IV: draw an IV and mark it supplied (43_cbc_controller.md R289); a hold while not all
of its bytes have arrived (70_reset_and_hazards.md R418). -/
def execGenIv (s : State) : Result :=
  match s.drawIv with
  | none => .next s
  | some s1 => .next ({ s1 with ivLen := 16 }).complete

end Sys2Proof.Machine
end

