-- ==== Sys2Proof/Machine/System.lean ====
section
/-! DEFINITION. NOP and CLEAR (45_system.md R352, R353), and what an illegal word does when its
command runs (R355). -/

namespace Sys2Proof.Machine

open Sys2Proof

/-- NOP (45_system.md R352). -/
def execNop (s : State) : Result := .next s.complete

/-- Every data-holding register and buffer zero; TRACE_EN, IRQEN and WERR kept (45_system.md R353). -/
def State.clearData (s : State) : State :=
  { s with
    key := Vector.replicate 8 ⟨0, 0, 0, 0⟩
    iv := zeroBlock
    stateReg := zeroBlock
    rk := Vector.replicate 15 zeroBlock
    msg := Memory.zeroed s.msgBytes
    trace := Memory.zeroed (3 * s.msgBytes)
    msgLen := 0
    blocks := 0
    trcnt := 0
    keyLen := 0
    ivLen := 0
    schedule := none }

/-- CLEAR (45_system.md R353). -/
def execClear (s : State) : Result := .next s.clearData.complete

/-- The rule of a word that selects no command: raise IllegalCommand (45_system.md R355). -/
def execIllegal (s : State) : Result := .next (s.raise .illegalCommand)

end Sys2Proof.Machine
end

