-- ==== Sys2Proof/Syntax.lean ====
section
/-! DEFINITION. The commands, one constructor per row of spec/opcode_table.json (30_encoding.md R134). -/

namespace Sys2Proof

/-- The eighteen commands of 30_encoding.md R134. Only ADDROUNDKEY has an operand in its word: the
unsigned round index rk (R132). Every other operand comes from registers. -/
inductive Instr where
  | nop
  | subBytes
  | invSubBytes
  | shiftRows
  | invShiftRows
  | mixColumns
  | invMixColumns
  | addRoundKey (rk : Nat)
  | keyExpand
  | genKey
  | genIv
  | encBlock
  | decBlock
  | cbcEnc
  | cbcDec
  | pad
  | unpad
  | clear
deriving DecidableEq, Repr

end Sys2Proof
end

