-- ==== Sys2Proof/WellFormed.lean ====
section
/-! DEFINITION. Which commands the encoding has a word for: ADDROUNDKEY's round index is 4 bits wide. -/

namespace Sys2Proof

/-- The operand fits its field: rk is "an unsigned round index 0..15" (30_encoding.md R132). -/
def Instr.wellFormed : Instr → Bool
  | .addRoundKey rk => decide (rk ≤ 15)
  | .nop | .subBytes | .invSubBytes | .shiftRows | .invShiftRows | .mixColumns | .invMixColumns => true
  | .keyExpand | .genKey | .genIv | .encBlock | .decBlock | .cbcEnc | .cbcDec => true
  | .pad | .unpad | .clear => true

end Sys2Proof
end

