-- ==== Sys2Proof/Decode.lean ====
section
/-! DEFINITION. The decoder, total on 32-bit words and rejecting by name (30_encoding.md R130–R136),
then the encoder written from the same table (R134), and the table itself as rows of match and mask. -/

namespace Sys2Proof

/-- Why a word selects no command (30_encoding.md R135); such a word completes with
`IllegalCommand` (45_system.md R355). -/
inductive DecodeError where
  /-- CMD[31:12] ≠ 0. -/
  | reservedBits
  /-- CMD[11:8] ≠ 0 and OP ≠ 0x07. -/
  | roundKeyField
  /-- OP is none of the eighteen of R134. -/
  | unknownOpcode
deriving DecidableEq, Repr

/-- OP, bits 7:0 (30_encoding.md R130). -/
def opField (w : Word) : BitVec 8 := w.extractLsb' 0 8

/-- RK, bits 11:8 (30_encoding.md R130). -/
def rkField (w : Word) : BitVec 4 := w.extractLsb' 8 4

/-- Bits 31:12, reserved (30_encoding.md R130, R133). -/
def reservedField (w : Word) : BitVec 20 := w.extractLsb' 12 20

/-- The command of an opcode by "exact match against the OP column" (30_encoding.md R131, R134). -/
def decodeOp (op : BitVec 8) (rk : Nat) : Except DecodeError Instr :=
  match op with
  | 0x00#8 => .ok .nop
  | 0x01#8 => .ok .subBytes
  | 0x02#8 => .ok .invSubBytes
  | 0x03#8 => .ok .shiftRows
  | 0x04#8 => .ok .invShiftRows
  | 0x05#8 => .ok .mixColumns
  | 0x06#8 => .ok .invMixColumns
  | 0x07#8 => .ok (.addRoundKey rk)
  | 0x10#8 => .ok .keyExpand
  | 0x11#8 => .ok .genKey
  | 0x12#8 => .ok .genIv
  | 0x20#8 => .ok .encBlock
  | 0x21#8 => .ok .decBlock
  | 0x30#8 => .ok .cbcEnc
  | 0x31#8 => .ok .cbcDec
  | 0x40#8 => .ok .pad
  | 0x41#8 => .ok .unpad
  | 0x70#8 => .ok .clear
  | _ => .error .unknownOpcode

/-- `decode(w)`: one of the eighteen commands, or the reason the word is illegal
(30_encoding.md R133, R135, R136). -/
def decode (w : Word) : Except DecodeError Instr :=
  if reservedField w ≠ 0#20 then .error .reservedBits
  else if rkField w ≠ 0#4 ∧ opField w ≠ 0x07#8 then .error .roundKeyField
  else decodeOp (opField w) (rkField w).toNat

/-- The OP column of 30_encoding.md R134. -/
def Instr.opcode : Instr → BitVec 8
  | .nop => 0x00
  | .subBytes => 0x01
  | .invSubBytes => 0x02
  | .shiftRows => 0x03
  | .invShiftRows => 0x04
  | .mixColumns => 0x05
  | .invMixColumns => 0x06
  | .addRoundKey _ => 0x07
  | .keyExpand => 0x10
  | .genKey => 0x11
  | .genIv => 0x12
  | .encBlock => 0x20
  | .decBlock => 0x21
  | .cbcEnc => 0x30
  | .cbcDec => 0x31
  | .pad => 0x40
  | .unpad => 0x41
  | .clear => 0x70

/-- The RK field of a command's word: ADDROUNDKEY's round index, 0 in every other (30_encoding.md R130). -/
def Instr.rkBits : Instr → BitVec 4
  | .addRoundKey rk => BitVec.ofNat 4 rk
  | _ => 0

/-- The word of a command: reserved bits zero, RK in 11:8, OP in 7:0 (30_encoding.md R130, R134). -/
def encode (i : Instr) : Word := 0#20 ++ i.rkBits ++ i.opcode

/-- One row of the encoding table: a word is the row's command when it agrees with `matchWord` on
the bits of `mask` (30_encoding.md R134). -/
structure EncodingRow where
  mnemonic : String
  matchWord : Word
  mask : Word
deriving DecidableEq, Repr

/-- The eighteen rows of 30_encoding.md R134; "mask is 0xFFFFFFFF except for ADDROUNDKEY, whose mask
is 0xFFFFF0FF". -/
def encodingTable : List EncodingRow :=
  [⟨"NOP", 0x00000000, 0xFFFFFFFF⟩, ⟨"SUBBYTES", 0x00000001, 0xFFFFFFFF⟩,
   ⟨"INV_SUBBYTES", 0x00000002, 0xFFFFFFFF⟩, ⟨"SHIFTROWS", 0x00000003, 0xFFFFFFFF⟩,
   ⟨"INV_SHIFTROWS", 0x00000004, 0xFFFFFFFF⟩, ⟨"MIXCOLUMNS", 0x00000005, 0xFFFFFFFF⟩,
   ⟨"INV_MIXCOLUMNS", 0x00000006, 0xFFFFFFFF⟩, ⟨"ADDROUNDKEY", 0x00000007, 0xFFFFF0FF⟩] ++
  [⟨"KEY_EXPAND", 0x00000010, 0xFFFFFFFF⟩, ⟨"GEN_KEY", 0x00000011, 0xFFFFFFFF⟩,
   ⟨"GEN_IV", 0x00000012, 0xFFFFFFFF⟩, ⟨"ENC_BLOCK", 0x00000020, 0xFFFFFFFF⟩,
   ⟨"DEC_BLOCK", 0x00000021, 0xFFFFFFFF⟩, ⟨"CBC_ENC", 0x00000030, 0xFFFFFFFF⟩,
   ⟨"CBC_DEC", 0x00000031, 0xFFFFFFFF⟩, ⟨"PAD", 0x00000040, 0xFFFFFFFF⟩,
   ⟨"UNPAD", 0x00000041, 0xFFFFFFFF⟩, ⟨"CLEAR", 0x00000070, 0xFFFFFFFF⟩]

/-- The word lies in the row: it agrees with the row's match under the row's mask (30_encoding.md R135). -/
def EncodingRow.admits (row : EncodingRow) (w : Word) : Bool := w &&& row.mask == row.matchWord

/-- The name a command has in 30_encoding.md R134 and in spec/opcode_table.json. -/
def Instr.mnemonic : Instr → String
  | .nop => "NOP"
  | .subBytes => "SUBBYTES"
  | .invSubBytes => "INV_SUBBYTES"
  | .shiftRows => "SHIFTROWS"
  | .invShiftRows => "INV_SHIFTROWS"
  | .mixColumns => "MIXCOLUMNS"
  | .invMixColumns => "INV_MIXCOLUMNS"
  | .addRoundKey _ => "ADDROUNDKEY"
  | .keyExpand => "KEY_EXPAND"
  | .genKey => "GEN_KEY"
  | .genIv => "GEN_IV"
  | .encBlock => "ENC_BLOCK"
  | .decBlock => "DEC_BLOCK"
  | .cbcEnc => "CBC_ENC"
  | .cbcDec => "CBC_DEC"
  | .pad => "PAD"
  | .unpad => "UNPAD"
  | .clear => "CLEAR"

/-- The command this decoder reads from a word whose bits the opcode table numbers. A command is
exactly one 32-bit word (30_encoding.md R130), so a longer row has none. -/
def decodeTableWord (nbits w : Nat) : Option Instr :=
  if nbits ≤ 32 then
    match decode (BitVec.ofNat 32 w) with
    | .ok i => some i
    | .error _ => none
  else none

end Sys2Proof
end

