-- ==== Sys2Proof/Machine/Bus.lean ====
section
/-! DEFINITION. The bus: the address map (20_memory.md R93, R109), the answer of a read (R96–R98) and
the effect and answer of a write (R96, R97, R99). -/

namespace Sys2Proof.Machine

open Sys2Proof

/-- The registers and windows of the address map (20_memory.md R93, 10_state.md R30). -/
inductive Window where
  | id
  | cmd
  | status
  | cfg
  | msgLen
  | irqEn
  | blkCnt
  | param
  | key
  | iv
  | state
  | rkey
  | msg
  | trace
deriving DecidableEq, Repr

/-- One mapped range of offsets. -/
structure Region where
  window : Window
  base : Nat
  size : Nat
deriving DecidableEq, Repr

/-- The address map of a core with the given MSG_BYTES; every other offset is unmapped
(20_memory.md R93, R109; 10_state.md R30). -/
def addressMap (msgBytes : Nat) : List Region :=
  [⟨.id, 0x000, 4⟩, ⟨.cmd, 0x004, 4⟩, ⟨.status, 0x008, 4⟩, ⟨.cfg, 0x00C, 4⟩,
   ⟨.msgLen, 0x010, 4⟩, ⟨.irqEn, 0x014, 4⟩, ⟨.blkCnt, 0x018, 4⟩, ⟨.param, 0x01C, 4⟩,
   ⟨.key, 0x100, 32⟩, ⟨.iv, 0x120, 16⟩, ⟨.state, 0x130, 16⟩, ⟨.rkey, 0x200, 240⟩,
   ⟨.msg, 0x10000, msgBytes⟩, ⟨.trace, 0x20000, 3 * msgBytes⟩]

/-- The window an address falls into and the offset in it; none for a misaligned or an unmapped
address (20_memory.md R95, R109). -/
def locate (msgBytes : Nat) (addr : BitVec 20) : Option (Window × Nat) :=
  if addr.toNat % 4 ≠ 0 then none
  else
    match (addressMap msgBytes).find? fun r => r.base ≤ addr.toNat && addr.toNat < r.base + r.size with
    | some r => some (r.window, addr.toNat - r.base)
    | none => none

/-- A window the host may write (20_memory.md R93, R96). -/
def Window.writable : Window → Bool
  | .id | .blkCnt | .param | .rkey | .trace => false
  | .cmd | .status | .cfg | .msgLen | .irqEn | .key | .iv | .state | .msg => true

/-- A data window: it reads 0 while the core is busy (20_memory.md R98). -/
def Window.isData : Window → Bool
  | .key | .iv | .state | .rkey | .msg | .trace => true
  | .id | .cmd | .status | .cfg | .msgLen | .irqEn | .blkCnt | .param => false

/-- A register the host may write while the core is busy (20_memory.md R99). -/
def Window.writableWhileBusy : Window → Bool
  | .status | .irqEn => true
  | .id | .cmd | .cfg | .msgLen | .blkCnt | .param | .key | .iv | .state | .rkey | .msg | .trace => false

/-- The RKEY view of the four bytes from offset o: RK when KEY_VALID = 1 and the round is at most
NR, else 0x00 (10_state.md R44). -/
def State.rkeyView (s : State) (o : Nat) : Quad :=
  if s.keyValid ∧ o / 16 ≤ s.nr then (roundKey s.rk (o / 16)).column (o % 16 / 4) else ⟨0, 0, 0, 0⟩

/-- The host's view of TRACE byte o: TRACE[o] when o div 48 < TRCNT, else 0x00 (10_state.md R46). -/
def State.traceView (s : State) (o : Nat) : Byte :=
  if o / 48 < s.trcnt.toNat then s.traceByte o else 0

/-- The word a window holds at word-aligned offset o, as an idle core shows it (10_state.md R31–R51,
20_memory.md R94). -/
def State.readWindow (s : State) (window : Window) (o : Nat) : Word :=
  match window with
  | .id => idWord
  | .cmd => s.cur
  | .status => s.statusWord
  | .cfg => s.cfgWord
  | .msgLen => s.msgLenWord
  | .irqEn => s.irqEnWord
  | .blkCnt => s.blkCntWord
  | .param => s.paramWord
  | .key => Quad.toWord ⟨s.keyByte o, s.keyByte (o + 1), s.keyByte (o + 2), s.keyByte (o + 3)⟩
  | .iv => (s.iv.column (o / 4)).toWord
  | .state => (s.stateReg.column (o / 4)).toWord
  | .rkey => (s.rkeyView o).toWord
  | .msg => Quad.toWord ⟨s.msgByte o, s.msgByte (o + 1), s.msgByte (o + 2), s.msgByte (o + 3)⟩
  | .trace => Quad.toWord ⟨s.traceView o, s.traceView (o + 1), s.traceView (o + 2), s.traceView (o + 3)⟩

/-- `BusRead(a)`: the answer; a read changes no state of the core (20_memory.md R96–R98). -/
def State.busRead (s : State) (addr : BitVec 20) : ReadAnswer :=
  match locate s.msgBytes addr with
  | none => ⟨0, true⟩
  | some (window, o) => if s.busy && window.isData then ⟨0, false⟩ else ⟨s.readWindow window o, false⟩

/-- The effect of an accepted host write of d at word-aligned offset o of a writable window
(20_memory.md R97; 41_key_schedule.md R207 (a)). -/
def State.writeWindow (s : State) (window : Window) (o : Nat) (d : Word) : State :=
  match window with
  | .cmd => s.accept d
  | .status => s.writeStatus d
  | .cfg => s.writeCfg d
  | .msgLen => s.writeMsgLen d
  | .irqEn => s.writeIrqEn d
  | .key => { s with key := s.key.setIfInBounds (o / 4) (Quad.ofWord d) }.invalidate
  | .iv => { s with iv := s.iv.setColumn (o / 4) (Quad.ofWord d) }
  | .state => { s with stateReg := s.stateReg.setColumn (o / 4) (Quad.ofWord d) }
  | .msg => s.memWrite o (Quad.ofWord d).bytes
  | .id | .blkCnt | .param | .rkey | .trace => s

/-- `BusWrite(a, d)`: the state after it and whether it answers an error. The bus-error checks come
first, then the busy rule (20_memory.md R96, R99). -/
def State.busWrite (s : State) (addr : BitVec 20) (d : Word) : State × Bool :=
  match locate s.msgBytes addr with
  | none => (s, true)
  | some (window, o) =>
    if !window.writable then (s, true)
    else if s.busy && !window.writableWhileBusy then ({ s with werr := true }, false)
    else (s.writeWindow window o d, false)

end Sys2Proof.Machine
end

