-- ==== Sys2Proof/Machine/Events.lean ====
section
/-! DEFINITION. The events of the outside world (20_memory.md R101, R108): which event comes next, and
what the ones that are not a completion do. -/

namespace Sys2Proof.Machine

open Sys2Proof

/-- How many entropy bytes the command in CUR draws if it runs to its end (70_reset_and_hazards.md
R418: GEN_KEY draws KEYLEN bytes, GEN_IV 16, CBC_ENC 16 when IVLEN = 0, and a check that fails
draws nothing). -/
def State.drawsNeeded (s : State) : Nat :=
  match decode s.cur with
  | .ok .genKey =>
    match Variant.ofKeyLen s.keyLen with
    | some v => v.keyBytes
    | none => 0
  | .ok .genIv => 16
  | .ok .cbcEnc =>
    match Variant.ofKeyLen s.keyLen with
    | some _ => if s.ivLen = 0 ∧ s.paddedLength ≤ s.msgBytes then 16 else 0
    | none => 0
  | _ => 0

/-- `ent_ready`: the running command is waiting for a draw (20_memory.md R91, 70_reset_and_hazards.md R418).
DEDUCED (log entry 11): it waits from its acceptance on, as long as it has drawn fewer bytes than it needs. -/
def State.entReady (s : State) : Bool := s.busy && decide (s.taken.length < s.drawsNeeded)

/-- One byte moves when `ent_valid` = `ent_ready` = 1, and none otherwise (20_memory.md R91). -/
def State.drawEvent (s : State) : State := if s.entReady then s.takeByte else s

/-- Reset: every piece of the core's state at its value of 70_reset_and_hazards.md R411, whatever the
core was doing (R410); the bytes a running command had drawn are lost (R412). -/
def State.applyReset (s : State) : State :=
  State.afterReset s.msgUnits (s.resets + 1) s.entropy s.pending

/-- The next event: the first of the events to come. With none to come it is what the core does by
itself: it takes a byte it waits for and the source offers, else completes the running command
(log entry 3). -/
def State.nextEvent (s : State) : Event :=
  match s.pending with
  | [] => if s.entReady && s.entropy.valid then .draw else .complete
  | e :: _ => e

/-- The state once its next event is taken from the events to come. -/
def State.afterTake (s : State) : State := { s with pending := s.pending.tail }

/-- The effect of an event that is no completion; a completion with no command running is no event of
the core, and nothing changes (log entry 13). -/
def State.applyEvent (s : State) (e : Event) : State :=
  match e with
  | .busRead addr => { s with answer := some (.read (s.busRead addr)) }
  | .busWrite addr d =>
    let answered := s.busWrite addr d
    { answered.1 with answer := some (.write answered.2) }
  | .reset => s.applyReset
  | .entropy byte => { s with entropy := s.entropy.offer byte }
  | .draw => s.drawEvent
  | .complete => s

/-- Whether the state's next event is the completion of a running command. -/
def State.completesNext (s : State) : Bool := s.busy && decide (s.nextEvent = .complete)

/-- Every byte the running command draws taken from the source, if the source offers them all. -/
def State.takeDraws (s : State) : State :=
  match s.entropy.drawMany s.drawsNeeded with
  | none => s
  | some (bs, e) => { s with entropy := e, taken := bs }

/-- The command word accepted (45_system.md R350), the bytes it draws arrived, and its completion the next
event (log entry 18). -/
def State.withCommand (s : State) (w : Word) : State :=
  { (s.accept w).takeDraws with pending := .complete :: s.pending }

end Sys2Proof.Machine
end

