-- ==== Sys2Proof/Machine/Step.lean ====
section
/-! DEFINITION. One step: the next event of the total order of 20_memory.md R101. -/

namespace Sys2Proof.Machine

open Sys2Proof

/-- Complete the command in CUR: its meaning, or `IllegalCommand` (45_system.md R351, R355). -/
def runCommand (s : State) : Host.Outcome State Fault Refusal :=
  match decode s.cur with
  | .ok i => exec i s
  | .error _ => execIllegal s

/-- Take the next event: the completion of the running command, or what the outside world does. -/
def step (s : State) : Host.Outcome State Fault Refusal :=
  if s.completesNext then runCommand s.afterTake
  else .next (s.afterTake.applyEvent s.nextEvent)

/-- The state in which the command word `w` has been accepted, the bytes it draws have arrived and its
completion is the next event, so that the next step runs exactly it (log entry 18). A command word is 32 bits whatever `nbits`
says; bits above `nbits` are 0 in `w`. -/
def State.withFetchWord (s : State) (_nbits w : Nat) : State := s.withCommand (BitVec.ofNat 32 w)

end Sys2Proof.Machine
end

