-- ==== Sys2Proof/Safety.lean ====
section
/-! DEFINITION. What counts as a safe run, and the words the claims are stated in: the invariants of
the machine, the table of checks (60_exceptions.md R372), the block cipher under a fresh expansion of
a key, and the message CBC_DEC recovers. -/

namespace Sys2Proof.Machine

open Sys2Proof

/-! ### Invariants -/

/-- "BUSY and DONE are never both 1" (10_state.md R34), and ERRCODE is 0 while a command runs
(10_state.md R35, 45_system.md R350). -/
def State.StatusOk (s : State) : Prop := s.busy = true → s.done = false ∧ s.error = none

/-- The key-schedule invariant (10_state.md R53): a held schedule is that of KEY[0..<CFG.KEYLEN]. -/
def State.ScheduleOk (s : State) : Prop :=
  ∀ v, s.schedule = some v →
    Variant.ofKeyLen s.keyLen = some v ∧
      ∀ r, r ≤ v.nr → roundKey s.rk r = roundKeyOf (expandKey v s.key) r

/-- What a command that needs round keys leaves of the schedule (41_key_schedule.md R205, R206): the
schedule of the current key is held; the round-key RAM is as before where a schedule was held, and its
round keys beyond Nr are as before in any case. -/
def State.KeyEnsured (s t : State) (v : Variant) : Prop :=
  t.schedule = some v ∧ t.ScheduleOk ∧ (s.schedule ≠ none → t.rk = s.rk) ∧
    ∀ r, v.nr < r → r < 15 → roundKey t.rk r = roundKey s.rk r

/-- Both buffers are in their canonical form and inside their sizes (10_state.md R45, R46). -/
def State.BuffersOk (s : State) : Prop :=
  s.msg.wf s.msgBytes = true ∧ s.trace.wf (3 * s.msgBytes) = true

/-- BLKCNT describes blocks that fit the buffer, TRCNT is 0 or BLOCKS, and every record TRCNT counts
has been written (10_state.md R50, 70_reset_and_hazards.md R411). -/
def State.TraceOk (s : State) : Prop :=
  16 * s.blocks.toNat ≤ s.msgBytes ∧ (s.trcnt = 0 ∨ s.trcnt = s.blocks) ∧
    ∀ o, o < 48 * s.trcnt.toNat → (s.trace.find o).isSome = true

/-- Code 5 is never raised (60_exceptions.md R371). -/
def State.ErrorOk (s : State) : Prop := s.error ≠ some .invalidHexInput

/-- Drawn bytes are those of the running command, and never more than it needs: the core takes a byte only
while a command waits for a draw (70_reset_and_hazards.md R418). -/
def State.EntropyOk (s : State) : Prop :=
  (s.busy = false → s.taken = []) ∧ s.taken.length ≤ s.drawsNeeded

/-- The invariant of the machine. -/
def State.Inv (s : State) : Prop :=
  s.StatusOk ∧ s.ScheduleOk ∧ s.BuffersOk ∧ s.TraceOk ∧ s.ErrorOk ∧ s.EntropyOk

/-- The values 70_reset_and_hazards.md R411 gives, as the host reads them and as registers. -/
def State.HasResetValues (t : State) : Prop :=
  t.busRead 0x000 = ⟨0x41455343, false⟩ ∧ t.busRead 0x004 = ⟨0, false⟩ ∧ t.statusWord = 0 ∧
    t.busRead 0x008 = ⟨0, false⟩ ∧ t.busRead 0x00C = ⟨0, false⟩ ∧ t.busRead 0x010 = ⟨0, false⟩ ∧
    t.busRead 0x014 = ⟨0, false⟩ ∧ t.busRead 0x018 = ⟨0, false⟩ ∧
    t.busRead 0x01C = ⟨BitVec.ofNat 32 t.msgBytes, false⟩ ∧
    (∀ j, j < 32 → t.keyByte j = 0) ∧ (∀ j, j < 16 → t.iv.byte j = 0 ∧ t.stateReg.byte j = 0) ∧
    (∀ a : BitVec 20, a.toNat % 4 = 0 →
      (0x100 ≤ a.toNat ∧ a.toNat < 0x140 ∨ 0x200 ≤ a.toNat ∧ a.toNat < 0x2F0 ∨
        0x20000 ≤ a.toNat ∧ a.toNat < 0x20000 + 3 * t.msgBytes) → t.busRead a = ⟨0, false⟩) ∧
    t.cur = 0 ∧ t.busy = false ∧ t.irq = false ∧ t.entReady = false

/-! ### The checks of the commands -/

/-- CFG.KEYLEN ∉ {16, 24, 32}. -/
def State.keyLenBad (s : State) : Bool := !([16, 24, 32].contains s.keyLen)

/-- rk > Nr for the key length in CFG.KEYLEN (00_scope.md R6, 42_block_transform.md R247). -/
def State.roundIndexBad (s : State) (rk : Nat) : Bool :=
  (s.keyLen == 16 && decide (10 < rk)) || (s.keyLen == 24 && decide (12 < rk)) ||
    (s.keyLen == 32 && decide (14 < rk))

/-- The checks a command makes before `-- execute`, in order: whether each fails, and the error it
then raises (the table of 60_exceptions.md R372). -/
def checks (i : Instr) (s : State) : List (Bool × CmdError) :=
  match i with
  | .nop | .subBytes | .invSubBytes | .shiftRows | .invShiftRows | .mixColumns | .invMixColumns => []
  | .genIv | .clear => []
  | .addRoundKey rk => [(s.keyLenBad, .invalidKeyLength), (s.roundIndexBad rk, .invalidRoundIndex)]
  | .keyExpand | .genKey => [(s.keyLenBad, .invalidKeyLength)]
  | .encBlock | .decBlock =>
    [(s.keyLenBad, .invalidKeyLength), (s.msgLen != 16, .invalidBlockLength)]
  | .cbcEnc =>
    [(s.keyLenBad, .invalidKeyLength), (s.ivLen != 0 && s.ivLen != 16, .invalidIVLength),
     (decide (s.msgBytes < s.msgLength + (16 - s.msgLength % 16)), .messageTooLong)]
  | .cbcDec =>
    [(s.keyLenBad, .invalidKeyLength), (s.ivLen != 16, .invalidIVLength),
     (s.msgLength == 0 || s.msgLength % 16 != 0, .invalidCiphertextLength),
     (decide (s.msgBytes < s.msgLength), .messageTooLong)]
  | .pad => [(decide (s.msgBytes < s.msgLength + (16 - s.msgLength % 16)), .messageTooLong)]
  | .unpad =>
    [(s.msgLength == 0, .emptyInput), (decide (s.msgBytes < s.msgLength), .messageTooLong)]

/-- The first check that fails: the one error the command reports (60_exceptions.md R373). -/
def checkFailure (i : Instr) (s : State) : Option CmdError :=
  ((checks i s).find? (·.1)).map (·.2)

/-- How many bytes a command draws in a state (70_reset_and_hazards.md R418). -/
def drawCount (i : Instr) (s : State) : Nat :=
  match i with
  | .genKey => s.keyLen.toNat
  | .genIv => 16
  | .cbcEnc => if s.ivLen = 0 then 16 else 0
  | .nop | .subBytes | .invSubBytes | .shiftRows | .invShiftRows | .mixColumns | .invMixColumns => 0
  | .addRoundKey _ | .keyExpand | .encBlock | .decBlock | .cbcDec | .pad | .unpad | .clear => 0

/-- Every byte the command draws has arrived (45_system.md R351). -/
def State.canDraw (s : State) (i : Instr) : Prop := drawCount i s ≤ s.taken.length

/-- The commands that use the key schedule: KEY_EXPAND, and those that run `EnsureKey()`
(41_key_schedule.md R206, R208). -/
def usesSchedule : Instr → Bool
  | .addRoundKey _ | .keyExpand | .encBlock | .decBlock | .cbcEnc | .cbcDec => true
  | .nop | .subBytes | .invSubBytes | .shiftRows | .invShiftRows | .mixColumns | .invMixColumns => false
  | .genKey | .genIv | .pad | .unpad | .clear => false

/-! ### The block cipher under a key, and the message of a ciphertext -/

/-- BlockEncrypt under a fresh expansion of the key: no held schedule is read (20_memory.md R106). -/
def keyCipher (v : Variant) (key : Vector Quad 8) (b : Block) : Block :=
  blockEncrypt (scheduleRam v key (Vector.replicate 15 zeroBlock)) v.nr b

/-- BlockDecrypt under a fresh expansion of the key. -/
def keyDecipher (v : Variant) (key : Vector Quad 8) (b : Block) : Block :=
  blockDecrypt (scheduleRam v key (Vector.replicate 15 zeroBlock)) v.nr b

/-- Block k of the padded message in MSG (43_cbc_controller.md R282). -/
def State.paddedBlock (s : State) (k : Nat) : Block :=
  Block.ofBytes ((pad (s.memRead 0 s.msgLength)).drop (16 * k))

/-- Block k of the plaintext of the ciphertext in MSG: BlockDecrypt(Ck) ⊕ C(k−1), the IV before block 0
(43_cbc_controller.md R284). -/
def State.plainBlock (s : State) (v : Variant) (k : Nat) : Block :=
  (keyDecipher v s.key (s.memReadBlock (16 * k))).xor
    (if k = 0 then s.iv else s.memReadBlock (16 * (k - 1)))

/-- The padded plaintext of the whole ciphertext in MSG[0..<MSGLEN]. -/
def State.plaintext (s : State) (v : Variant) : List Byte :=
  (List.range (s.msgLength / 16)).flatMap fun k => (s.plainBlock v k).bytes

/-- Field f (0, 1, 2) of trace record k: TRACE[48k+16f..48k+16f+15] (43_cbc_controller.md R287). -/
def State.traceField (s : State) (k f : Nat) : Block :=
  Block.ofBytes ((List.range 16).map fun j => s.traceByte (48 * k + 16 * f + j))

end Sys2Proof.Machine
end

