-- ==== Sys2Proof/Certificates/Slice0/Obligations.lean ====
section
/-! DEFINITION. The statements for the provers. Each says which rule of spec/ it formalises; OBLIGATIONS.json
lists them with their quotes. A statement about every state that could fail only in states no run
reaches carries the invariant that rules them out as a premise (`State.StatusOk`, `State.ScheduleOk`);
that every step keeps those invariants is stated in a statement of its own. -/

open Sys2Proof Sys2Proof.Machine

/-! ### Encoding -/

/-- 30_encoding.md R130–R136: the decoder gives back every well-formed command from its word. -/
def Obligations.DecodeInvertsEncode : Prop :=
  ∀ i : Instr, i.wellFormed = true → decode (encode i) = .ok i

/-- 30_encoding.md R131, R136: a word that selects a command is the one word of that command, so the
decoder drops no bit of any legal word. -/
def Obligations.EncodeInvertsDecode : Prop :=
  ∀ (w : Word) (i : Instr), decode w = .ok i → i.wellFormed = true ∧ encode i = w

/-- 30_encoding.md R134 and R136 (the spec's own inference): a word in a row of the table is that row's
command, with bits 11:8 as ADDROUNDKEY's operand; a word in no row is illegal; no word is in two rows.
-/
def Obligations.DecoderFollowsEncodingTable : Prop :=
  (∀ (w : Word) (row : EncodingRow), row ∈ encodingTable → row.admits w = true →
    ∃ i, decode w = .ok i ∧ i.mnemonic = row.mnemonic) ∧
  (∀ (w : Word) (rk : Nat), decode w = .ok (.addRoundKey rk) → rk = (w.extractLsb' 8 4).toNat) ∧
  (∀ w : Word, (∀ row ∈ encodingTable, row.admits w = false) → ∃ e, decode w = .error e) ∧
  (∀ (w : Word) (r1 r2 : EncodingRow), r1 ∈ encodingTable → r2 ∈ encodingTable →
    r1.admits w = true → r2.admits w = true → r1 = r2)

/-- 30_encoding.md R133 and the enumeration of R135: exactly these words select no command. -/
def Obligations.IllegalWordsSelectNoCommand : Prop :=
  ∀ w : Word, (∃ e, decode w = .error e) ↔
    w.extractLsb' 12 20 ≠ 0 ∨ (w.extractLsb' 8 4 ≠ 0 ∧ w.extractLsb' 0 8 ≠ 0x07) ∨
      w.extractLsb' 0 8 ∉ ([0x00, 0x01, 0x02, 0x03, 0x04, 0x05, 0x06, 0x07, 0x10, 0x11, 0x12] ++
        [0x20, 0x21, 0x30, 0x31, 0x40, 0x41, 0x70] : List (BitVec 8))

/-- Sanity, one word per family written out from 30_encoding.md R134, and illegal neighbours. -/
def Obligations.SampleWordsDecode : Prop :=
  decode 0x00000000 = .ok .nop ∧ decode 0x00000001 = .ok .subBytes ∧
  decode 0x00000006 = .ok .invMixColumns ∧ decode 0x00000B07 = .ok (.addRoundKey 11) ∧
  decode 0x00000010 = .ok .keyExpand ∧ decode 0x00000012 = .ok .genIv ∧
  decode 0x00000021 = .ok .decBlock ∧ decode 0x00000030 = .ok .cbcEnc ∧
  decode 0x00000041 = .ok .unpad ∧ decode 0x00000070 = .ok .clear ∧
  decode 0x00000110 = .error .roundKeyField ∧ decode 0x80000030 = .error .reservedBits ∧
  decode 0x00000008 = .error .unknownOpcode

/-! ### Steps, acceptance and completion -/

/-- 45_system.md R351: when the next event is the completion of the running command (its place among the
events is data of the model, log entry 3) and CUR decodes to a command, the step is that command's
meaning, on the state with the event taken from the ones to come. -/
def Obligations.StepRunsDecodedCommand : Prop :=
  ∀ (s : State) (i : Instr), s.busy = true → s.nextEvent = .complete → decode s.cur = .ok i →
    step s = exec i { s with pending := s.pending.tail }

/-- 45_system.md R355: an illegal word completes with IllegalCommand and changes no state but STATUS. -/
def Obligations.IllegalWordCompletes : Prop :=
  ∀ (s : State) (e : DecodeError), s.busy = true → s.nextEvent = .complete →
    decode s.cur = .error e →
    step s = .next { s with
      pending := s.pending.tail, error := some .illegalCommand, busy := false, done := true }

/-- 45_system.md R350, R354: a CMD write while idle is accepted, whatever the word, and no byte is drawn for
it yet; while busy it is ignored, sets WERR and leaves the running command alone. That the answer stands in
a field of State is the model's choice (log entry 14), and the field `taken`, empty at acceptance, is its
deduction (log entry 11). -/
def Obligations.CommandAcceptance : Prop :=
  ∀ (s : State) (w : Word) (rest : List Event), s.pending = .busWrite 0x004 w :: rest →
    (s.busy = false → ∃ t, step s = .next t ∧
      t = { s with cur := w, done := false, error := none, busy := true, taken := [],
                   pending := rest, answer := some (.write false) } ∧
      t.errCode = 0 ∧ t.err = false) ∧
    (s.busy = true →
      step s = .next { s with werr := true, pending := rest, answer := some (.write false) })

/-- 45_system.md R351, 60_exceptions.md R370, 70_reset_and_hazards.md R418: every command, in every state,
answers a next state: it has ended (BUSY 0, DONE 1), or it holds unchanged because not all the bytes it
draws have arrived (that a hold changes nothing is the model's deduction, log entry 11). No command touches
CUR, WERR, TRACE_EN, DONE_IE, PARAM, the source or the events to come. And 70_reset_and_hazards.md R422:
with a source that always offers a byte and no event to come, every running command ends, after one step per
byte it still waits for and one for its completion (that the core goes on when no event is listed is the
model's choice, log entry 3). -/
def Obligations.EveryCommandEndsByCompletion : Prop :=
  (∀ (i : Instr) (s : State), ∃ t, exec i s = .next t ∧
    ((t.busy = false ∧ t.done = true) ∨ (t = s ∧ ¬ s.canDraw i)) ∧
    t.cur = s.cur ∧ t.werr = s.werr ∧ t.traceEn = s.traceEn ∧ t.doneIe = s.doneIe ∧
    t.msgUnits = s.msgUnits ∧ t.resets = s.resets ∧ t.entropy = s.entropy ∧ t.pending = s.pending ∧
    t.answer = s.answer) ∧
  (∀ s : State, s.busy = true → s.pending = [] → s.entropy.flowing = true →
    ∃ t, Host.Core.run Sys2Proof.core (s.drawsNeeded - s.taken.length + 1) s = .next t ∧
      t.busy = false ∧ t.done = true)

/-- 60_exceptions.md R371–R374: the first failing check of the table of R372 is the error reported, and
then nothing but STATUS changes; with no failing check and the bytes to draw, the command completes,
with an error only where R372 says "after". -/
def Obligations.FirstFailingCheckIsReported : Prop :=
  ∀ (i : Instr) (s : State),
    (∀ e, checkFailure i s = some e →
      exec i s = .next { s with error := some e, busy := false, done := true }) ∧
    (checkFailure i s = none → s.canDraw i →
      ∃ t, exec i s = .next t ∧ t.busy = false ∧ t.done = true ∧
        (t.error = s.error ∨ (i = .cbcDec ∧ t.error = some .decryptFailed) ∨
          (i = .unpad ∧ t.error = some .invalidPadding)))

/-! ### Field arithmetic and tables -/

/-- 40_gf_tables.md R163: commutative, associative, distributive over XOR, identity 0x01, zero, and the
two examples. -/
def Obligations.GfMultiplyFieldLaws : Prop :=
  (∀ a b : Byte, gfMultiply a b = gfMultiply b a) ∧
  (∀ a b c : Byte, gfMultiply (gfMultiply a b) c = gfMultiply a (gfMultiply b c)) ∧
  (∀ a b c : Byte, gfMultiply a (b ^^^ c) = gfMultiply a b ^^^ gfMultiply a c) ∧
  (∀ a : Byte, gfMultiply a 1 = a) ∧ (∀ a : Byte, gfMultiply a 0 = 0) ∧
  gfMultiply 0x57 0x83 = 0xC1 ∧ gfMultiply 0x57 0x13 = 0xFE

/-- 40_gf_tables.md R167 and R178 (the spec's own inferences): the laws of the tables over all bytes,
and InvMixColumns of MixColumns on every column. -/
def Obligations.TableLaws : Prop :=
  (∀ b : Byte, invSbox (sbox b) = b ∧ sbox (invSbox b) = b ∧ sbox b ≠ b ∧ sbox b ≠ b ^^^ 0xFF) ∧
  (∀ b : Byte, mul2 b = gfMultiply 2 b ∧ mul3 b = gfMultiply 3 b ∧ mul9 b = gfMultiply 9 b ∧
    mul11 b = gfMultiply 11 b ∧ mul13 b = gfMultiply 13 b ∧ mul14 b = gfMultiply 14 b) ∧
  (∀ q : Quad, invMixColumn (mixColumn q) = q)

/-! ### The primitives of the block transform -/

/-- 42_block_transform.md R230, R231, R236: byte i of each result. -/
def Obligations.BytewisePrimitives : Prop :=
  ∀ (s k : Block) (i : Nat), i < 16 →
    (subBytes s).byte i = sbox (s.byte i) ∧ (invSubBytes s).byte i = invSbox (s.byte i) ∧
      (addRoundKey s k).byte i = s.byte i ^^^ k.byte i

/-- 42_block_transform.md R232, R233: the rotations by rows, and as byte permutations. -/
def Obligations.RowRotations : Prop :=
  (∀ (s : Block) (r c : Nat), r < 4 → c < 4 →
    ((shiftRows s).column c).row r = (s.column ((c + r) % 4)).row r ∧
      ((invShiftRows s).column c).row r = (s.column ((c + 4 - r) % 4)).row r) ∧
  (∀ s : Block,
    (shiftRows s).bytes = [0, 5, 10, 15, 4, 9, 14, 3, 8, 13, 2, 7, 12, 1, 6, 11].map s.byte ∧
    (invShiftRows s).bytes = [0, 13, 10, 7, 4, 1, 14, 11, 8, 5, 2, 15, 12, 9, 6, 3].map s.byte)

/-- 42_block_transform.md R234, R235: output row r of each column is the combination with coefficient
k[(j − r) mod 4] for input row j, k = [2,3,1,1] and [14,11,13,9], and the equations by table. -/
def Obligations.ColumnMixing : Prop :=
  ∀ (s : Block) (c : Nat), c < 4 →
    (∀ r, r < 4 →
      ((mixColumns s).column c).row r =
        gfMultiply ((s.column c).row 0) ([2, 3, 1, 1].getD ((4 - r) % 4) 0) ^^^
        gfMultiply ((s.column c).row 1) ([2, 3, 1, 1].getD ((5 - r) % 4) 0) ^^^
        gfMultiply ((s.column c).row 2) ([2, 3, 1, 1].getD ((6 - r) % 4) 0) ^^^
        gfMultiply ((s.column c).row 3) ([2, 3, 1, 1].getD ((7 - r) % 4) 0) ∧
      ((invMixColumns s).column c).row r =
        gfMultiply ((s.column c).row 0) ([14, 11, 13, 9].getD ((4 - r) % 4) 0) ^^^
        gfMultiply ((s.column c).row 1) ([14, 11, 13, 9].getD ((5 - r) % 4) 0) ^^^
        gfMultiply ((s.column c).row 2) ([14, 11, 13, 9].getD ((6 - r) % 4) 0) ^^^
        gfMultiply ((s.column c).row 3) ([14, 11, 13, 9].getD ((7 - r) % 4) 0)) ∧
    (mixColumns s).column c =
      (let a := s.column c
       ⟨mul2 a.a0 ^^^ mul3 a.a1 ^^^ a.a2 ^^^ a.a3, a.a0 ^^^ mul2 a.a1 ^^^ mul3 a.a2 ^^^ a.a3,
        a.a0 ^^^ a.a1 ^^^ mul2 a.a2 ^^^ mul3 a.a3, mul3 a.a0 ^^^ a.a1 ^^^ a.a2 ^^^ mul2 a.a3⟩) ∧
    (invMixColumns s).column c =
      (let a := s.column c
       ⟨mul14 a.a0 ^^^ mul11 a.a1 ^^^ mul13 a.a2 ^^^ mul9 a.a3,
        mul9 a.a0 ^^^ mul14 a.a1 ^^^ mul11 a.a2 ^^^ mul13 a.a3,
        mul13 a.a0 ^^^ mul9 a.a1 ^^^ mul14 a.a2 ^^^ mul11 a.a3,
        mul11 a.a0 ^^^ mul13 a.a1 ^^^ mul9 a.a2 ^^^ mul14 a.a3⟩)

/-- 42_block_transform.md R237, R238: encryption is whitening with RK[0], the full rounds 1..Nr−1 in
rising order and the final round Nr without the column mixing; decryption is whitening with RK[Nr], the
full inverse rounds Nr−1..1 in falling order, and the final step with RK[0] without the inverse mixing.
Here Nr is n + 1. -/
def Obligations.BlockTransformComposition : Prop :=
  ∀ (rk : Vector Block 15) (n : Nat) (b : Block),
    blockEncrypt rk (n + 1) b =
      (let rounds := (List.range n).foldl
        (fun s r => addRoundKey (mixColumns (shiftRows (subBytes s))) (roundKey rk (r + 1)))
        (addRoundKey b (roundKey rk 0))
       addRoundKey (shiftRows (subBytes rounds)) (roundKey rk (n + 1))) ∧
    blockDecrypt rk (n + 1) b =
      (let rounds := (List.range n).foldr
        (fun r s => invMixColumns (addRoundKey (invSubBytes (invShiftRows s)) (roundKey rk (r + 1))))
        (addRoundKey b (roundKey rk (n + 1)))
       addRoundKey (invSubBytes (invShiftRows rounds)) (roundKey rk 0))

/-- 42_block_transform.md R240 (the spec's own inference): the inverse laws of the four primitives, and
decryption of an encryption for every variant and every contents of the round-key RAM. -/
def Obligations.DecryptionInvertsEncryption : Prop :=
  (∀ s k : Block, invSubBytes (subBytes s) = s ∧ invShiftRows (shiftRows s) = s ∧
    invMixColumns (mixColumns s) = s ∧ addRoundKey (addRoundKey s k) k = s) ∧
  (∀ (rk : Vector Block 15) (v : Variant) (b : Block),
    blockDecrypt rk v.nr (blockEncrypt rk v.nr b) = b)

/-- Sanity, 95_test_vectors.md L1-1 and L2-BLK-1, 2, 3, 7: the known answers for the three key lengths,
both ways. The key is the bytes 0x00 up to the key length. -/
def Obligations.KnownAnswers : Prop :=
  let key : Vector Quad 8 := #v[⟨0x00, 0x01, 0x02, 0x03⟩, ⟨0x04, 0x05, 0x06, 0x07⟩,
    ⟨0x08, 0x09, 0x0a, 0x0b⟩, ⟨0x0c, 0x0d, 0x0e, 0x0f⟩, ⟨0x10, 0x11, 0x12, 0x13⟩,
    ⟨0x14, 0x15, 0x16, 0x17⟩, ⟨0x18, 0x19, 0x1a, 0x1b⟩, ⟨0x1c, 0x1d, 0x1e, 0x1f⟩]
  let plain : Block := ⟨⟨0x00, 0x11, 0x22, 0x33⟩, ⟨0x44, 0x55, 0x66, 0x77⟩,
    ⟨0x88, 0x99, 0xaa, 0xbb⟩, ⟨0xcc, 0xdd, 0xee, 0xff⟩⟩
  let c128 : Block := ⟨⟨0x69, 0xc4, 0xe0, 0xd8⟩, ⟨0x6a, 0x7b, 0x04, 0x30⟩,
    ⟨0xd8, 0xcd, 0xb7, 0x80⟩, ⟨0x70, 0xb4, 0xc5, 0x5a⟩⟩
  let c192 : Block := ⟨⟨0xdd, 0xa9, 0x7c, 0xa4⟩, ⟨0x86, 0x4c, 0xdf, 0xe0⟩,
    ⟨0x6e, 0xaf, 0x70, 0xa0⟩, ⟨0xec, 0x0d, 0x71, 0x91⟩⟩
  let c256 : Block := ⟨⟨0x8e, 0xa2, 0xb7, 0xca⟩, ⟨0x51, 0x67, 0x45, 0xbf⟩,
    ⟨0xea, 0xfc, 0x49, 0x90⟩, ⟨0x4b, 0x49, 0x60, 0x89⟩⟩
  keyCipher .aes128 key plain = c128 ∧ keyDecipher .aes128 key c128 = plain ∧
  keyCipher .aes192 key plain = c192 ∧ keyDecipher .aes192 key c192 = plain ∧
  keyCipher .aes256 key plain = c256 ∧ keyDecipher .aes256 key c256 = plain

/-! ### The key schedule -/

/-- 41_key_schedule.md R203: the schedule has 4·(Nr+1) words, the first Nk are the key's, and each
further word follows from its predecessor and the word Nk back as the three cases of the rule say. -/
def Obligations.KeyExpansionRecurrence : Prop :=
  ∀ (v : Variant) (key : Vector Quad 8),
    (expandKey v key).length = 4 * (v.nr + 1) ∧
    (∀ i (h : i < v.nk) (h8 : i < 8), wordAt (expandKey v key) i = key[i]) ∧
    (∀ i, v.nk ≤ i → i < 4 * (v.nr + 1) →
      (i % v.nk = 0 →
        wordAt (expandKey v key) i =
          (let u := subWord (rotWord (wordAt (expandKey v key) (i - 1)))
           Quad.xor ⟨u.a0 ^^^ rcon (i / v.nk), u.a1, u.a2, u.a3⟩
             (wordAt (expandKey v key) (i - v.nk)))) ∧
      (i % v.nk ≠ 0 → 6 < v.nk ∧ i % v.nk = 4 →
        wordAt (expandKey v key) i =
          (subWord (wordAt (expandKey v key) (i - 1))).xor (wordAt (expandKey v key) (i - v.nk))) ∧
      (i % v.nk ≠ 0 → ¬ (6 < v.nk ∧ i % v.nk = 4) →
        wordAt (expandKey v key) i =
          (wordAt (expandKey v key) (i - 1)).xor (wordAt (expandKey v key) (i - v.nk))))

/-- 41_key_schedule.md R204: the grouping of words into round keys, 11, 13 or 15 of them, and round key 0
as the first sixteen key bytes (42_block_transform.md R247). -/
def Obligations.RoundKeyGrouping : Prop :=
  (∀ (w : List Quad) (r j : Nat), j < 16 →
    (roundKeyOf w r).byte j = (wordAt w (4 * r + j / 4)).row (j % 4)) ∧
  (∀ key : Vector Quad 8, (expandKey .aes128 key).length = 4 * 11 ∧
    (expandKey .aes192 key).length = 4 * 13 ∧ (expandKey .aes256 key).length = 4 * 15) ∧
  (∀ (v : Variant) (key : Vector Quad 8),
    roundKeyOf (expandKey v key) 0 = ⟨key[0], key[1], key[2], key[3]⟩)

/-- 41_key_schedule.md R205 through KEY_EXPAND (R208): RK[0..Nr] hold the schedule of the current key,
RK[Nr+1..14] are not written, KEY_VALID and NR are set; nothing else changes but the completion. -/
def Obligations.KeyExpandCommand : Prop :=
  ∀ (s : State) (v : Variant), Variant.ofKeyLen s.keyLen = some v →
    ∃ t, exec .keyExpand s = .next t ∧
      (∀ r, r ≤ v.nr → roundKey t.rk r = roundKeyOf (expandKey v s.key) r) ∧
      (∀ r, v.nr < r → r < 15 → roundKey t.rk r = roundKey s.rk r) ∧
      t.keyValid = true ∧ t.nr = v.nr ∧
      t = { s with rk := t.rk, schedule := t.schedule, busy := false, done := true }

/-- 41_key_schedule.md R207: each of the events (a)–(e) clears KEY_VALID and NR, and nothing else clears
KEY_VALID. -/
def Obligations.KeyValidClearedExactly : Prop :=
  ∀ s t : State, step s = .next t →
    ((((∃ a d, s.nextEvent = .busWrite a d ∧ s.busy = false ∧ a.toNat % 4 = 0 ∧
            0x100 ≤ a.toNat ∧ a.toNat < 0x120) ∨
        (∃ d : Word, s.nextEvent = .busWrite 0x00C d ∧ s.busy = false ∧
            d.extractLsb' 0 8 ≠ s.keyLen) ∨
        (s.completesNext = true ∧ decode s.cur = .ok .genKey ∧
            Variant.ofKeyLen s.keyLen ≠ none ∧ t.busy = false) ∨
        (s.completesNext = true ∧ decode s.cur = .ok .clear) ∨
        s.nextEvent = .reset) →
      t.keyValid = false ∧ t.nr = 0) ∧
    (s.keyValid = true → t.keyValid = false →
      (∃ a d, s.nextEvent = .busWrite a d ∧ s.busy = false ∧ a.toNat % 4 = 0 ∧
            0x100 ≤ a.toNat ∧ a.toNat < 0x120) ∨
        (∃ d : Word, s.nextEvent = .busWrite 0x00C d ∧ s.busy = false ∧
            d.extractLsb' 0 8 ≠ s.keyLen) ∨
        (s.completesNext = true ∧ decode s.cur = .ok .genKey ∧
            Variant.ofKeyLen s.keyLen ≠ none ∧ t.busy = false) ∨
        (s.completesNext = true ∧ decode s.cur = .ok .clear) ∨
        s.nextEvent = .reset))

/-- 20_memory.md R106, in the sentence it marks as its own inference: no command's result depends on whether
the schedule was held before it. A command that uses the schedule and runs to its end gives the very same
state either way; any other command, a failing check and a hold among them, gives the same state but that
the schedule it does not touch is still not held. -/
def Obligations.ScheduleCacheInvisible : Prop :=
  (∀ (i : Instr) (s : State), s.ScheduleOk → usesSchedule i = true → checkFailure i s = none →
    s.canDraw i → exec i s.invalidate = exec i s) ∧
  (∀ (i : Instr) (s t : State), ¬ (usesSchedule i = true ∧ checkFailure i s = none ∧ s.canDraw i) →
    exec i s = .next t → exec i s.invalidate = .next t.invalidate)

/-- 41_key_schedule.md R209: GEN_KEY puts the drawn bytes into KEY in order, zeroes the rest, and leaves no
schedule held; nothing else changes but the bytes it has used and the completion. The drawn bytes as the
field `taken` are the model's deduction (log entry 11). -/
def Obligations.GenKeyCommand : Prop :=
  ∀ (s : State) (v : Variant), Variant.ofKeyLen s.keyLen = some v → v.keyBytes ≤ s.taken.length →
    ∃ t, exec .genKey s = .next t ∧
      (∀ j, j < v.keyBytes → t.keyByte j = s.taken.getD j 0) ∧
      (∀ j, v.keyBytes ≤ j → j < 32 → t.keyByte j = 0) ∧
      t.keyValid = false ∧ t.nr = 0 ∧
      t = { s with key := t.key, schedule := none, taken := s.taken.drop v.keyBytes, busy := false,
                   done := true }

/-- 43_cbc_controller.md R289: GEN_IV puts sixteen drawn bytes into IV in order and sets IVLEN to 16;
KEY_VALID is not changed, and nothing else but the bytes it has used and the completion. The drawn bytes as
the field `taken` are the model's deduction (log entry 11). -/
def Obligations.GenIvCommand : Prop :=
  ∀ s : State, 16 ≤ s.taken.length →
    ∃ t, exec .genIv s = .next t ∧ (∀ j, j < 16 → t.iv.byte j = s.taken.getD j 0) ∧ t.ivLen = 16 ∧
      t = { s with iv := t.iv, ivLen := 16, taken := s.taken.drop 16, busy := false, done := true }

/-- 20_memory.md R91: a byte moves from the source to the command when `ent_valid` = `ent_ready` = 1, and
at no other time. 70_reset_and_hazards.md R418: `ent_ready` is 1 only while a command waits for a draw, only
GEN_KEY, GEN_IV and CBC_ENC draw, and a command waits until its bytes have come. The rest is the model's
deduction, log entry 11: that `ent_ready` is 1 all the while a running command whose checks pass has drawn
fewer bytes than it draws, from its acceptance on; that the bytes drawn are the field `taken`; and that the
completion uses up the bytes the command draws, or changes nothing while they have not all arrived. The
source gives its bytes in the order offered (10_state.md R57); its form as data is the model's, log entry 5.
A reset loses the bytes drawn and leaves the source (70_reset_and_hazards.md R412, the spec's own inference;
log entry 12). -/
def Obligations.EntropyDrawsAndHolds : Prop :=
  (∀ s : State, s.entReady = true ↔ s.busy = true ∧
    ∃ i, decode s.cur = .ok i ∧ checkFailure i s = none ∧ s.taken.length < drawCount i s) ∧
  (∀ s : State, s.nextEvent = .draw →
    (∀ b e, s.entReady = true → s.entropy.draw = some (b, e) →
      step s = .next { s with
        pending := s.pending.tail, entropy := e, taken := s.taken ++ [b] }) ∧
    (s.entReady = false ∨ s.entropy.valid = false →
      step s = .next { s with pending := s.pending.tail })) ∧
  (∀ s t : State, step s = .next t → s.taken.length < t.taken.length →
    s.nextEvent = .draw ∧ s.entReady = true ∧ s.entropy.valid = true) ∧
  (∀ (s : State) (b : Byte) (rest : List Event), s.pending = .entropy b :: rest →
    step s = .next { s with
      pending := rest, entropy := { s.entropy with offered := s.entropy.offered ++ [b] } }) ∧
  (∀ (bs rest : List Byte) (flowing : Bool) (drawn : Nat),
    Entropy.drawMany ⟨bs ++ rest, flowing, drawn⟩ bs.length = some (bs, ⟨rest, flowing, drawn⟩)) ∧
  (∀ e : Entropy, e.valid = true ↔ e.offered ≠ [] ∨ e.flowing = true) ∧
  (∀ (i : Instr) (s t : State), exec i s = .next t →
    t.taken = s.taken ∨ drawCount i s ≤ s.taken.length ∧ t.taken = s.taken.drop (drawCount i s)) ∧
  (∀ (i : Instr) (s t : State), exec i s = .next t → i ≠ .genKey → i ≠ .genIv → i ≠ .cbcEnc →
    t.taken = s.taken) ∧
  (∀ (i : Instr) (s : State), checkFailure i s = none → ¬ s.canDraw i → exec i s = .next s) ∧
  (∀ (s : State) (rest : List Event), s.pending = .reset :: rest →
    ∃ t, step s = .next t ∧ t.taken = [] ∧ t.entropy = s.entropy)

/-! ### The single-stage and single-block commands -/

/-- 42_block_transform.md R241–R246: each stage command applies its primitive to STATE and completes;
nothing else changes, and ERRCODE is 0 when the command was accepted. -/
def Obligations.StageCommands : Prop :=
  ∀ (s : State) (i : Instr) (f : Block → Block) (w : Word),
    (i, f, w) ∈ ([(.subBytes, subBytes, 0x01), (.invSubBytes, invSubBytes, 0x02),
      (.shiftRows, shiftRows, 0x03), (.invShiftRows, invShiftRows, 0x04),
      (.mixColumns, mixColumns, 0x05), (.invMixColumns, invMixColumns, 0x06)] :
        List (Instr × (Block → Block) × Word)) →
    decode w = .ok i ∧
    ∃ t, exec i s = .next t ∧
      t = { s with stateReg := f s.stateReg, busy := false, done := true } ∧
      (s.StatusOk → s.busy = true → t.errCode = 0)

/-- 42_block_transform.md R247: with a legal key and rk ≤ Nr, ADDROUNDKEY XORs round key rk of the current
key into STATE, leaves that key's schedule held, and changes nothing else but the completion. -/
def Obligations.AddRoundKeyCommand : Prop :=
  ∀ (s : State) (v : Variant) (rk : Nat), s.ScheduleOk → Variant.ofKeyLen s.keyLen = some v →
    rk ≤ v.nr →
    ∃ t, exec (.addRoundKey rk) s = .next t ∧
      (∀ i, i < 16 → t.stateReg.byte i =
        s.stateReg.byte i ^^^ (roundKeyOf (expandKey v s.key) rk).byte i) ∧
      s.KeyEnsured t v ∧
      t = { s with stateReg := t.stateReg, rk := t.rk, schedule := t.schedule, busy := false,
                   done := true }

/-- 42_block_transform.md R248: ENC_BLOCK replaces MSG[0..15] by its encryption under the current key; no
other byte of MSG and no other state changes but W, the held schedule and the completion. -/
def Obligations.EncBlockCommand : Prop :=
  ∀ (s : State) (v : Variant), s.ScheduleOk → Variant.ofKeyLen s.keyLen = some v →
    s.msgLength = 16 →
    ∃ t, exec .encBlock s = .next t ∧
      t.memReadBlock 0 = keyCipher v s.key (s.memReadBlock 0) ∧
      (∀ o, 16 ≤ o → t.msgByte o = s.msgByte o) ∧
      s.KeyEnsured t v ∧
      t = { s with msg := t.msg, w := t.w, rk := t.rk, schedule := t.schedule, busy := false,
                   done := true }

/-- 42_block_transform.md R249: DEC_BLOCK, as ENC_BLOCK with the decryption; and DEC_BLOCK after ENC_BLOCK
restores MSG[0..15]. -/
def Obligations.DecBlockCommand : Prop :=
  ∀ (s : State) (v : Variant), s.ScheduleOk → Variant.ofKeyLen s.keyLen = some v →
    s.msgLength = 16 →
    (∃ t, exec .decBlock s = .next t ∧
      t.memReadBlock 0 = keyDecipher v s.key (s.memReadBlock 0) ∧
      (∀ o, 16 ≤ o → t.msgByte o = s.msgByte o) ∧
      s.KeyEnsured t v ∧
      t = { s with msg := t.msg, w := t.w, rk := t.rk, schedule := t.schedule, busy := false,
                   done := true }) ∧
    (∃ t u, exec .encBlock s = .next t ∧ exec .decBlock t = .next u ∧
      ∀ o, u.msgByte o = s.msgByte o)

/-! ### Padding -/

/-- 44_padding.md R331: `unpad` accepts exactly the data that ends in n bytes of value n, 1 ≤ n ≤ 16, and
strips them; it fails with EmptyInput exactly on no data, and with InvalidPadding on all other data. -/
def Obligations.UnpadAcceptsExactlyPadded : Prop :=
  (∀ (data m : List Byte) (n : Nat), unpad data = .ok (m, n) ↔
    1 ≤ n ∧ n ≤ 16 ∧ data = m ++ List.replicate n (BitVec.ofNat 8 n)) ∧
  (∀ data : List Byte, unpad data = .error .emptyInput ↔ data = []) ∧
  (∀ data : List Byte, unpad data = .error .invalidPadding ↔
    data ≠ [] ∧ ¬ ∃ m n, 1 ≤ n ∧ n ≤ 16 ∧ data = m ++ List.replicate n (BitVec.ofNat 8 n))

/-- 44_padding.md R332 and R335 (the spec's own inferences): a padded message has a positive length that
is a multiple of 16, from |m| + 1 to |m| + 16; unpad undoes pad; a last byte 0 or above 16, or a
trailing byte that differs, is InvalidPadding; PAD then UNPAD leaves MSGLEN and the message as they
were. -/
def Obligations.PaddingRoundTrip : Prop :=
  (∀ m : List Byte, (pad m).length % 16 = 0 ∧ m.length + 1 ≤ (pad m).length ∧
    (pad m).length ≤ m.length + 16 ∧ 0 < (pad m).length) ∧
  (∀ m : List Byte, unpad (pad m) = .ok (m, 16 - m.length % 16)) ∧
  (∀ (data : List Byte) (last : Byte),
    (last = 0 ∨ 16 < last.toNat ∨ ∃ j, j + 1 < last.toNat ∧
      (data ++ [last]).reverse.getD (j + 1) last ≠ last) →
    unpad (data ++ [last]) = .error .invalidPadding) ∧
  (∀ s : State, s.msgLength + 1 ≤ s.msgBytes →
    ∃ t u, exec .pad s = .next t ∧ exec .unpad t = .next u ∧ u.error = s.error ∧
      u.msgLen = s.msgLen ∧ ∀ o, o < s.msgLength → u.msgByte o = s.msgByte o)

/-- 44_padding.md R333: PAD appends n bytes of value n after the message, n = 16 − (L mod 16), and sets
MSGLEN to L + n; every other byte of MSG and all other state stay. -/
def Obligations.PadCommand : Prop :=
  ∀ s : State, s.msgLength + (16 - s.msgLength % 16) ≤ s.msgBytes →
    ∃ t, exec .pad s = .next t ∧
      t.msgLength = s.msgLength + (16 - s.msgLength % 16) ∧
      (∀ o, s.msgLength ≤ o → o < t.msgLength →
        t.msgByte o = BitVec.ofNat 8 (16 - s.msgLength % 16)) ∧
      (∀ o, o < s.msgLength ∨ t.msgLength ≤ o → t.msgByte o = s.msgByte o) ∧
      t = { s with msg := t.msg, msgLen := t.msgLen, busy := false, done := true }

/-- 44_padding.md R334: with n the last byte of the message, UNPAD shortens MSGLEN by n when 1 ≤ n ≤ 16,
n ≤ L and the last n bytes are all n; otherwise it reports InvalidPadding. MSG is not written. -/
def Obligations.UnpadCommand : Prop :=
  ∀ s : State, 0 < s.msgLength → s.msgLength ≤ s.msgBytes →
    let n := (s.msgByte (s.msgLength - 1)).toNat
    let valid := 1 ≤ n ∧ n ≤ 16 ∧ n ≤ s.msgLength ∧
      ∀ j, j < n → s.msgByte (s.msgLength - 1 - j) = s.msgByte (s.msgLength - 1)
    (valid → ∃ t, exec .unpad s = .next t ∧ t.msgLength = s.msgLength - n ∧
      t = { s with msgLen := t.msgLen, busy := false, done := true }) ∧
    (¬ valid →
      exec .unpad s = .next { s with error := some .invalidPadding, busy := false, done := true })

/-! ### The CBC controller -/

/-- 43_cbc_controller.md R280, R282, R283: CBC_ENC takes the supplied IV or sixteen drawn bytes, and
leaves in MSG the chain of ciphertext blocks of the padded message; MSGLEN, IVLEN and BLKCNT are as the
rule says, and nothing else changes but the trace, PREV, the held schedule, the bytes it has used and the
completion. The drawn bytes as the field `taken` are the model's deduction (log entry 11). -/
def Obligations.CbcEncCommand : Prop :=
  ∀ (s : State) (v : Variant) (iv : Block) (rest : List Byte), s.ScheduleOk →
    Variant.ofKeyLen s.keyLen = some v →
    (s.ivLen = 16 ∧ iv = s.iv ∧ rest = s.taken ∨
      s.ivLen = 0 ∧ ∃ bs, bs.length = 16 ∧ s.taken = bs ++ rest ∧ iv = Block.ofBytes bs) →
    s.msgLength + (16 - s.msgLength % 16) ≤ s.msgBytes →
    ∃ t, exec .cbcEnc s = .next t ∧
      t.msgLength = s.msgLength + (16 - s.msgLength % 16) ∧
      t.blocks.toNat = t.msgLength / 16 ∧
      t.trcnt.toNat = (if s.traceEn then t.msgLength / 16 else 0) ∧
      (∀ k, k < t.msgLength / 16 →
        t.memReadBlock (16 * k) = keyCipher v s.key
          ((s.paddedBlock k).xor (if k = 0 then iv else t.memReadBlock (16 * (k - 1))))) ∧
      (∀ o, t.msgLength ≤ o → t.msgByte o = s.msgByte o) ∧
      (∀ o, (if s.traceEn then 3 * t.msgLength else 0) ≤ o → t.traceByte o = s.traceByte o) ∧
      s.KeyEnsured t v ∧
      t = { s with
        msg := t.msg, msgLen := t.msgLen, iv := iv, ivLen := 0, taken := rest, blocks := t.blocks,
        trcnt := t.trcnt, trace := t.trace, prev := t.prev, rk := t.rk, schedule := t.schedule,
        busy := false, done := true }

/-- 43_cbc_controller.md R284: when the padding is valid, CBC_DEC leaves the plaintext blocks
BlockDecrypt(Ck) ⊕ C(k−1) in MSG, shortens MSGLEN by the pad length and counts the blocks; IV, IVLEN
and STATE are not changed. -/
def Obligations.CbcDecCommand : Prop :=
  ∀ (s : State) (v : Variant) (m : List Byte) (n : Nat), s.ScheduleOk →
    Variant.ofKeyLen s.keyLen = some v → s.ivLen = 16 → 0 < s.msgLength → s.msgLength % 16 = 0 →
    s.msgLength ≤ s.msgBytes → unpad (s.plaintext v) = .ok (m, n) →
    ∃ t, exec .cbcDec s = .next t ∧
      t.msgLength = s.msgLength - n ∧ t.memRead 0 t.msgLength = m ∧
      (∀ k, k < s.msgLength / 16 → t.memReadBlock (16 * k) = s.plainBlock v k) ∧
      (∀ o, s.msgLength ≤ o → t.msgByte o = s.msgByte o) ∧
      t.blocks.toNat = s.msgLength / 16 ∧
      t.trcnt.toNat = (if s.traceEn then s.msgLength / 16 else 0) ∧
      (∀ o, (if s.traceEn then 3 * s.msgLength else 0) ≤ o → t.traceByte o = s.traceByte o) ∧
      s.KeyEnsured t v ∧
      t = { s with
        msg := t.msg, msgLen := t.msgLen, blocks := t.blocks, trcnt := t.trcnt, trace := t.trace,
        prev := t.prev, rk := t.rk, schedule := t.schedule, busy := false, done := true }

/-- 43_cbc_controller.md R285: when the padding is not valid, whichever check failed, CBC_DEC zeroes
MSG[0..<L] and, when traced, TRACE[0..<3L], sets MSGLEN and BLKCNT to 0 and reports code 8; a schedule
it built stays valid. -/
def Obligations.CbcDecFailureScrubs : Prop :=
  ∀ (s : State) (v : Variant) (f : PadFailure), s.ScheduleOk →
    Variant.ofKeyLen s.keyLen = some v → s.ivLen = 16 → 0 < s.msgLength → s.msgLength % 16 = 0 →
    s.msgLength ≤ s.msgBytes → unpad (s.plaintext v) = .error f →
    ∃ t, exec .cbcDec s = .next t ∧
      (∀ o, o < s.msgLength → t.msgByte o = 0) ∧
      (∀ o, s.msgLength ≤ o → t.msgByte o = s.msgByte o) ∧
      (s.traceEn = true → ∀ o, o < 3 * s.msgLength → t.traceByte o = 0) ∧
      (∀ o, (if s.traceEn then 3 * s.msgLength else 0) ≤ o → t.traceByte o = s.traceByte o) ∧
      t.errCode = 8 ∧ s.KeyEnsured t v ∧
      t = { s with
        msg := t.msg, msgLen := 0, blocks := 0, trcnt := 0, trace := t.trace, prev := t.prev,
        rk := t.rk, schedule := t.schedule, error := some .decryptFailed, busy := false,
        done := true }

/-- 43_cbc_controller.md R287, R286: the three fields of record k after a CBC command that completed
without error with TRACE_EN = 1, and no change of TRACE with TRACE_EN = 0. -/
def Obligations.TraceRecordLayout : Prop :=
  ∀ (s t : State) (v : Variant), s.ScheduleOk → Variant.ofKeyLen s.keyLen = some v →
    s.error = none → t.error = none → t.busy = false →
    (checkFailure .cbcEnc s = none → s.canDraw .cbcEnc → exec .cbcEnc s = .next t →
      (s.traceEn = false → t.trace = s.trace) ∧
      (s.traceEn = true → ∀ k, k < t.msgLength / 16 →
        t.traceField k 0 = s.paddedBlock k ∧
        t.traceField k 1 =
          (s.paddedBlock k).xor (if k = 0 then t.iv else t.memReadBlock (16 * (k - 1))) ∧
        t.traceField k 2 = t.memReadBlock (16 * k))) ∧
    (checkFailure .cbcDec s = none → exec .cbcDec s = .next t →
      (s.traceEn = false → t.trace = s.trace) ∧
      (s.traceEn = true → ∀ k, k < s.msgLength / 16 →
        t.traceField k 0 = s.memReadBlock (16 * k) ∧
        t.traceField k 1 = s.plainBlock v k ∧
        t.traceField k 2 = keyDecipher v s.key (s.memReadBlock (16 * k))))

/-- 43_cbc_controller.md R291 (the spec's own inference): CBC_ENC with a supplied IV, then CFG.IVLEN <-
16, then CBC_DEC, gives the message back, for every key length, IV and message of at most MSG_BYTES − 1
bytes. -/
def Obligations.CbcRoundTrip : Prop :=
  ∀ (s : State) (v : Variant), s.ScheduleOk → Variant.ofKeyLen s.keyLen = some v → s.ivLen = 16 →
    s.msgLength ≤ s.msgBytes - 1 →
    ∃ t u, exec .cbcEnc s = .next t ∧ exec .cbcDec { t with ivLen := 16 } = .next u ∧
      u.error = s.error ∧ u.msgLength = s.msgLength ∧
      u.memRead 0 u.msgLength = s.memRead 0 s.msgLength

/-- 43_cbc_controller.md R286: the results of CBC_ENC and CBC_DEC do not depend on TRACE_EN: the two runs
differ in TRACE_EN, TRACE and TRCNT only. -/
def Obligations.TraceEnableInvisible : Prop :=
  ∀ (i : Instr) (s t u : State), i = .cbcEnc ∨ i = .cbcDec →
    exec i { s with traceEn := false } = .next t → exec i { s with traceEn := true } = .next u →
    u = { t with traceEn := true, trace := u.trace, trcnt := u.trcnt }

/-- 43_cbc_controller.md R281: a CBC_ENC that completes without error leaves IVLEN 0; CBC_DEC changes neither
IVLEN nor IV. And R280's draw: a CBC_ENC that finds IVLEN 0 takes sixteen drawn bytes as its IV, whatever IV
held. The drawn bytes as the field `taken` are the model's deduction (log entry 11). -/
def Obligations.NoSilentIvReuse : Prop :=
  (∀ s t : State, checkFailure .cbcEnc s = none → s.canDraw .cbcEnc →
    exec .cbcEnc s = .next t → t.ivLen = 0) ∧
  (∀ s t : State, checkFailure .cbcEnc s = none → s.canDraw .cbcEnc → s.ivLen = 0 →
    exec .cbcEnc s = .next t →
    ∃ bs, bs.length = 16 ∧ s.taken = bs ++ t.taken ∧ t.iv = Block.ofBytes bs) ∧
  (∀ s t : State, exec .cbcDec s = .next t → t.ivLen = s.ivLen ∧ t.iv = s.iv)

/-! ### NOP and CLEAR -/

/-- 45_system.md R352: NOP changes no state but STATUS, where DONE is set and ERRCODE is 0, and raises irq
when DONE_IE is set. -/
def Obligations.NopCommand : Prop :=
  decode 0x00000000 = .ok .nop ∧
  ∀ s : State, ∃ t, exec .nop s = .next t ∧ t = { s with busy := false, done := true } ∧
    t.irq = s.doneIe ∧ (s.StatusOk → s.busy = true → t.errCode = 0)

/-- 45_system.md R353: after CLEAR every byte of KEY, IV, STATE, RK, MSG and TRACE is 0x00, every window
reads 0, the lengths, the counts and the schedule are gone, and TRACE_EN, DONE_IE and WERR are kept. -/
def Obligations.ClearCommand : Prop :=
  decode 0x00000070 = .ok .clear ∧
  ∀ s : State, ∃ t, exec .clear s = .next t ∧
    (∀ j, j < 32 → t.keyByte j = 0) ∧ (∀ j, j < 16 → t.iv.byte j = 0 ∧ t.stateReg.byte j = 0) ∧
    (∀ r j, r < 15 → j < 16 → (roundKey t.rk r).byte j = 0) ∧
    (∀ o, o < s.msgBytes → t.msgByte o = 0) ∧ (∀ o, o < 3 * s.msgBytes → t.traceByte o = 0) ∧
    (∀ a : BitVec 20, a.toNat % 4 = 0 →
      (0x100 ≤ a.toNat ∧ a.toNat < 0x140 ∨ 0x200 ≤ a.toNat ∧ a.toNat < 0x2F0 ∨
        0x10000 ≤ a.toNat ∧ a.toNat < 0x10000 + s.msgBytes ∨
        0x20000 ≤ a.toNat ∧ a.toNat < 0x20000 + 3 * s.msgBytes) →
      t.busRead a = ⟨0, false⟩) ∧
    t.msgLenWord = 0 ∧ t.blkCntWord = 0 ∧ t.keyValid = false ∧ t.nr = 0 ∧
    t.cfgWord = (if s.traceEn then 0x00010000 else 0) ∧
    (s.StatusOk → s.busy = true →
      t.statusWord = (if s.werr then 0x0000000A else 0x00000002)) ∧
    t = { s with
      key := t.key, iv := t.iv, stateReg := t.stateReg, rk := t.rk, msg := t.msg, trace := t.trace,
      msgLen := 0, blocks := 0, trcnt := 0, keyLen := 0, ivLen := 0, schedule := none,
      busy := false, done := true }

/-! ### Registers and the bus -/

/-- 10_state.md R31, R32, R33, R35, R38, R39, R49, R50, R51, R52: what a read of each register shows, busy or
not, field by field with the reserved bits 0; and the effect of a host write to STATUS, which only clears
DONE and WERR. -/
def Obligations.RegisterReads : Prop :=
  (∀ s : State, s.busRead 0x000 = ⟨0x41455343, false⟩ ∧ s.busRead 0x004 = ⟨s.cur, false⟩ ∧
    s.busRead 0x008 = ⟨s.statusWord, false⟩ ∧ s.busRead 0x00C = ⟨s.cfgWord, false⟩ ∧
    s.busRead 0x010 = ⟨s.msgLenWord, false⟩ ∧ s.busRead 0x014 = ⟨s.irqEnWord, false⟩ ∧
    s.busRead 0x018 = ⟨s.blkCntWord, false⟩ ∧
    s.busRead 0x01C = ⟨BitVec.ofNat 32 s.msgBytes, false⟩) ∧
  (∀ s : State, s.statusWord.getLsbD 0 = s.busy ∧ s.statusWord.getLsbD 1 = s.done ∧
    s.statusWord.getLsbD 2 = (s.errCode != 0) ∧ s.statusWord.getLsbD 3 = s.werr ∧
    s.statusWord.getLsbD 4 = s.keyValid ∧ s.statusWord.extractLsb' 5 3 = 0 ∧
    s.statusWord.extractLsb' 8 4 = s.errCode ∧ s.statusWord.extractLsb' 12 4 = 0 ∧
    (s.statusWord.extractLsb' 16 4).toNat = s.nr ∧ s.statusWord.extractLsb' 20 12 = 0) ∧
  (∀ s : State, s.cfgWord.extractLsb' 0 8 = s.keyLen ∧ s.cfgWord.extractLsb' 8 8 = s.ivLen ∧
    s.cfgWord.getLsbD 16 = s.traceEn ∧ s.cfgWord.extractLsb' 17 15 = 0 ∧
    s.msgLenWord.extractLsb' 0 16 = s.msgLen ∧ s.msgLenWord.extractLsb' 16 16 = 0 ∧
    s.irqEnWord.getLsbD 0 = s.doneIe ∧ s.irqEnWord.extractLsb' 1 31 = 0 ∧
    s.blkCntWord.extractLsb' 0 16 = s.blocks ∧ s.blkCntWord.extractLsb' 16 16 = s.trcnt) ∧
  (∀ (s : State) (d : Word), s.busWrite 0x008 d =
    ({ s with done := s.done && !d.getLsbD 1, werr := s.werr && !d.getLsbD 3 }, false))

/-- 10_state.md R38, R39, R49, R52 and 41_key_schedule.md R207: what a host write to CFG, MSGLEN and IRQEN
leaves, reserved bits reading 0, and when the CFG write clears KEY_VALID. -/
def Obligations.ConfigurationWrites : Prop :=
  (∀ (s : State) (d : Word), s.busy = false →
    ∃ t, s.busWrite 0x00C d = (t, false) ∧ t.busRead 0x00C = ⟨d &&& 0x0001FFFF, false⟩ ∧
      t.keyLen = d.extractLsb' 0 8 ∧ t.ivLen = d.extractLsb' 8 8 ∧ t.traceEn = d.getLsbD 16 ∧
      t.keyValid = (s.keyValid && d.extractLsb' 0 8 == s.keyLen) ∧
      t = { s with keyLen := t.keyLen, ivLen := t.ivLen, traceEn := t.traceEn,
                   schedule := t.schedule }) ∧
  (∀ (s : State) (d : Word), s.busy = false →
    ∃ t, s.busWrite 0x010 d = (t, false) ∧ t.busRead 0x010 = ⟨d &&& 0x0000FFFF, false⟩ ∧
      t = { s with msgLen := d.extractLsb' 0 16 }) ∧
  (∀ (s : State) (d : Word),
    ∃ t, s.busWrite 0x014 d = (t, false) ∧ t.busRead 0x014 = ⟨d &&& 0x00000001, false⟩ ∧
      t = { s with doneIe := d.getLsbD 0 })

/-- 20_memory.md R96, R109: a misaligned or unmapped address answers a bus error with data 0 on a read,
and on a write changes no state, as does a write to ID, BLKCNT, PARAM, the RKEY view or TRACE, whether
or not the core is busy; every other transaction answers no error. -/
def Obligations.BusErrors : Prop :=
  ∀ (s : State) (a : BitVec 20) (d : Word),
    let mapped := a.toNat % 4 = 0 ∧
      (a.toNat < 0x20 ∨ 0x100 ≤ a.toNat ∧ a.toNat < 0x140 ∨ 0x200 ≤ a.toNat ∧ a.toNat < 0x2F0 ∨
        0x10000 ≤ a.toNat ∧ a.toNat < 0x10000 + s.msgBytes ∨
        0x20000 ≤ a.toNat ∧ a.toNat < 0x20000 + 3 * s.msgBytes)
    let readOnly := a.toNat = 0x000 ∨ a.toNat = 0x018 ∨ a.toNat = 0x01C ∨
      0x200 ≤ a.toNat ∧ a.toNat < 0x2F0 ∨ 0x20000 ≤ a.toNat
    (¬ mapped → s.busRead a = ⟨0, true⟩) ∧ (mapped → (s.busRead a).err = false) ∧
      (¬ mapped ∨ readOnly → s.busWrite a d = (s, true)) ∧
      (mapped → ¬ readOnly → (s.busWrite a d).2 = false)

/-- 20_memory.md R92, R97, R100: a read event changes nothing but the answer, and every later read answers
as before; a write event is the write's effect and its answer, in one event. The place of the answer in
State is the model's (log entry 14). And 60_exceptions.md R388: an idle core keeps its state; with no event
to come a step changes nothing, and a listed completion or draw only leaves the list (log entry 13). -/
def Obligations.EventEffects : Prop :=
  (∀ (s : State) (a : BitVec 20) (rest : List Event), s.pending = .busRead a :: rest →
    ∃ t, step s = .next t ∧ t = { s with pending := rest, answer := some (.read (s.busRead a)) } ∧
      ∀ b, t.busRead b = s.busRead b) ∧
  (∀ (s : State) (a : BitVec 20) (d : Word) (rest : List Event), s.pending = .busWrite a d :: rest →
    step s = .next { (s.busWrite a d).1 with
      pending := rest, answer := some (.write (s.busWrite a d).2) }) ∧
  (∀ s : State, s.busy = false → s.pending = [] → step s = .next s) ∧
  (∀ (s : State) (e : Event) (rest : List Event), s.busy = false → e = .complete ∨ e = .draw →
    s.pending = e :: rest → step s = .next { s with pending := rest })

/-- 20_memory.md R98, R99: while BUSY = 1 the data windows read 0 and the registers read their current
values; a write to STATUS or IRQEN takes effect as when idle, and any other writable address drops the
data, sets WERR and answers no error. -/
def Obligations.BusyWindow : Prop :=
  ∀ (s : State) (a : BitVec 20) (d : Word), s.busy = true → a.toNat % 4 = 0 →
    ((0x100 ≤ a.toNat ∧ a.toNat < 0x140 ∨ 0x200 ≤ a.toNat ∧ a.toNat < 0x2F0 ∨
        0x10000 ≤ a.toNat ∧ a.toNat < 0x10000 + s.msgBytes ∨
        0x20000 ≤ a.toNat ∧ a.toNat < 0x20000 + 3 * s.msgBytes) → s.busRead a = ⟨0, false⟩) ∧
    (a.toNat < 0x20 → s.busRead a =
      ⟨[0x41455343, s.cur, s.statusWord, s.cfgWord, s.msgLenWord, s.irqEnWord, s.blkCntWord,
        BitVec.ofNat 32 s.msgBytes].getD (a.toNat / 4) 0, false⟩) ∧
    (a = 0x008 ∨ a = 0x014 → s.busWrite a d =
      ({ (({ s with busy := false } : State).busWrite a d).1 with busy := true }, false)) ∧
    (a.toNat = 0x004 ∨ a.toNat = 0x00C ∨ a.toNat = 0x010 ∨ 0x100 ≤ a.toNat ∧ a.toNat < 0x140 ∨
        0x10000 ≤ a.toNat ∧ a.toNat < 0x10000 + s.msgBytes →
      s.busWrite a d = ({ s with werr := true }, false))

/-- 20_memory.md R94, R97: an idle write to a word of KEY, IV, STATE or MSG puts byte lane j into the
window's byte, is read back whole, and leaves every other address reading as before, but for STATUS
and the RKEY view, which a KEY write changes (41_key_schedule.md R207). -/
def Obligations.WindowWriteReadBack : Prop :=
  ∀ (s : State) (a : BitVec 20) (d : Word), s.busy = false → a.toNat % 4 = 0 →
    (0x100 ≤ a.toNat ∧ a.toNat < 0x140 ∨ 0x10000 ≤ a.toNat ∧ a.toNat < 0x10000 + s.msgBytes) →
    ∃ t, s.busWrite a d = (t, false) ∧ t.busRead a = ⟨d, false⟩ ∧
      (∀ j, j < 4 →
        (a.toNat < 0x120 → t.keyByte (a.toNat - 0x100 + j) = d.extractLsb' (8 * j) 8) ∧
        (0x120 ≤ a.toNat → a.toNat < 0x130 →
          t.iv.byte (a.toNat - 0x120 + j) = d.extractLsb' (8 * j) 8) ∧
        (0x130 ≤ a.toNat → a.toNat < 0x140 →
          t.stateReg.byte (a.toNat - 0x130 + j) = d.extractLsb' (8 * j) 8) ∧
        (0x10000 ≤ a.toNat → t.msgByte (a.toNat - 0x10000 + j) = d.extractLsb' (8 * j) 8)) ∧
      (∀ b : BitVec 20, b ≠ a → b ≠ 0x008 → ¬ (0x200 ≤ b.toNat ∧ b.toNat < 0x2F0) →
        t.busRead b = s.busRead b) ∧
      t = { s with key := t.key, iv := t.iv, stateReg := t.stateReg, msg := t.msg,
                   schedule := t.schedule }

/-- 20_memory.md R94, 10_state.md R44, R46: what an idle core's windows show, byte by byte: byte lane j of the
word at window offset o is byte o + j of KEY, IV, STATE or MSG; the RKEY and TRACE views are gated. -/
def Obligations.WindowReads : Prop :=
  ∀ (s : State) (o j : Nat), s.busy = false → o % 4 = 0 → j < 4 →
    (o < 32 → ∃ d, s.busRead (BitVec.ofNat 20 (0x100 + o)) = ⟨d, false⟩ ∧
      d.extractLsb' (8 * j) 8 = s.keyByte (o + j)) ∧
    (o < 16 → ∃ d, s.busRead (BitVec.ofNat 20 (0x120 + o)) = ⟨d, false⟩ ∧
      d.extractLsb' (8 * j) 8 = s.iv.byte (o + j)) ∧
    (o < 16 → ∃ d, s.busRead (BitVec.ofNat 20 (0x130 + o)) = ⟨d, false⟩ ∧
      d.extractLsb' (8 * j) 8 = s.stateReg.byte (o + j)) ∧
    (o < s.msgBytes → ∃ d, s.busRead (BitVec.ofNat 20 (0x10000 + o)) = ⟨d, false⟩ ∧
      d.extractLsb' (8 * j) 8 = s.msgByte (o + j)) ∧
    (o < 240 → ∃ d, s.busRead (BitVec.ofNat 20 (0x200 + o)) = ⟨d, false⟩ ∧
      d.extractLsb' (8 * j) 8 =
        if s.keyValid = true ∧ o / 16 ≤ s.nr then (roundKey s.rk (o / 16)).byte (o % 16 + j)
        else 0) ∧
    (o < 3 * s.msgBytes → ∃ d, s.busRead (BitVec.ofNat 20 (0x20000 + o)) = ⟨d, false⟩ ∧
      d.extractLsb' (8 * j) 8 = if o / 48 < s.trcnt.toNat then s.traceByte (o + j) else 0)

/-- 10_state.md R34, R36: what sets and what clears DONE and WERR, over every step. -/
def Obligations.StickyBits : Prop :=
  ∀ s t : State, step s = .next t →
    (s.werr = true → t.werr = false →
      (∃ d : Word, s.nextEvent = .busWrite 0x008 d ∧ d.getLsbD 3 = true) ∨
        s.nextEvent = .reset) ∧
    (s.werr = false → t.werr = true → s.busy = true ∧ ∃ a d, s.nextEvent = .busWrite a d) ∧
    (s.done = true → t.done = false →
      (s.busy = false ∧ ∃ w : Word, s.nextEvent = .busWrite 0x004 w) ∨
        (∃ d : Word, s.nextEvent = .busWrite 0x008 d ∧ d.getLsbD 1 = true) ∨
        s.nextEvent = .reset) ∧
    (s.done = false → t.done = true → s.completesNext = true ∧ t.busy = false)

/-- 60_exceptions.md R380, and R381 (the spec's own inference): irq follows DONE & DONE_IE in the event
that changes either. -/
def Obligations.InterruptLevel : Prop :=
  ∀ s t : State, step s = .next t →
    t.irq = (t.done && t.doneIe) ∧
    (s.completesNext = true → t.busy = false → t.irq = s.doneIe) ∧
    (∀ d : Word, s.nextEvent = .busWrite 0x014 d → t.irq = (s.done && d.getLsbD 0)) ∧
    (∀ w : Word, s.nextEvent = .busWrite 0x004 w → s.busy = false → t.irq = false) ∧
    (∀ d : Word, s.nextEvent = .busWrite 0x008 d → d.getLsbD 1 = true → t.irq = false) ∧
    (s.nextEvent = .reset → t.irq = false)

/-- 10_state.md R40, R41, R42, R50: the only events that change KEY, IV, STATE and BLKCNT. -/
def Obligations.RegisterWriters : Prop :=
  ∀ s t : State, step s = .next t → s.nextEvent ≠ .reset →
    (t.key ≠ s.key →
      (s.busy = false ∧ ∃ a d, s.nextEvent = .busWrite a d ∧ 0x100 ≤ a.toNat ∧ a.toNat < 0x120) ∨
        (s.completesNext = true ∧ (decode s.cur = .ok .genKey ∨ decode s.cur = .ok .clear))) ∧
    (t.iv ≠ s.iv →
      (s.busy = false ∧ ∃ a d, s.nextEvent = .busWrite a d ∧ 0x120 ≤ a.toNat ∧ a.toNat < 0x130) ∨
        (s.completesNext = true ∧ (decode s.cur = .ok .cbcEnc ∧ s.ivLen = 0 ∨
          decode s.cur = .ok .genIv ∨ decode s.cur = .ok .clear))) ∧
    (t.stateReg ≠ s.stateReg →
      (s.busy = false ∧ ∃ a d, s.nextEvent = .busWrite a d ∧ 0x130 ≤ a.toNat ∧ a.toNat < 0x140) ∨
        (s.completesNext = true ∧ ∃ i, decode s.cur = .ok i ∧
          (i = .subBytes ∨ i = .invSubBytes ∨ i = .shiftRows ∨ i = .invShiftRows ∨
            i = .mixColumns ∨ i = .invMixColumns ∨ (∃ rk, i = .addRoundKey rk) ∨ i = .clear))) ∧
    (t.blocks ≠ s.blocks ∨ t.trcnt ≠ s.trcnt →
      s.completesNext = true ∧ (decode s.cur = .ok .cbcEnc ∨ decode s.cur = .ok .cbcDec ∨
        decode s.cur = .ok .clear))

/-! ### Reset and invariants -/

/-- 70_reset_and_hazards.md R411: the values after a reset, whatever the core was doing, and those of the
state the machine starts in. -/
def Obligations.ResetValues : Prop :=
  (∀ (s : State) (rest : List Event), s.pending = .reset :: rest →
    ∃ t, step s = .next t ∧ t.pending = rest ∧ t.msgUnits = s.msgUnits ∧ t.HasResetValues) ∧
  State.reset.HasResetValues

/-- 70_reset_and_hazards.md R411: the state after reset meets the machine's invariant. -/
def Obligations.ResetMeetsInvariant : Prop := State.reset.Inv

/-- 10_state.md R53 (the spec's own inference): every step keeps the key-schedule invariant. -/
def Obligations.ScheduleInvariantKept : Prop :=
  ∀ s t : State, s.ScheduleOk → step s = .next t → t.ScheduleOk

/-- 10_state.md R34, R35: every step keeps BUSY and DONE exclusive, and ERRCODE 0 while a command runs. And
70_reset_and_hazards.md R418: every step keeps drawn bytes those of the running command, no more than it
needs (the field that holds them is the model's deduction, log entry 11). -/
def Obligations.CommandInvariantsKept : Prop :=
  (∀ s t : State, s.StatusOk → step s = .next t → t.StatusOk) ∧
  (∀ s t : State, s.EntropyOk → step s = .next t → t.EntropyOk)

/-- 20_memory.md R103 (the spec's own inference), 60_exceptions.md R372: every step keeps MSG and TRACE
in canonical form and inside their sizes: no store is out of range. -/
def Obligations.BuffersStayInRange : Prop :=
  ∀ s t : State, s.BuffersOk → step s = .next t → t.BuffersOk

/-- 10_state.md R46, R50, 70_reset_and_hazards.md R411: every step keeps BLKCNT within the buffer and
every record TRCNT counts written. -/
def Obligations.CountedRecordsStayWritten : Prop :=
  ∀ s t : State, s.TraceOk → step s = .next t → t.TraceOk

/-- 60_exceptions.md R371: no step raises code 5, and no state has a code of 12 or above. -/
def Obligations.ReservedErrorCodesUnused : Prop :=
  (∀ s t : State, s.ErrorOk → step s = .next t → t.ErrorOk) ∧ (∀ s : State, s.errCode.toNat < 12)
end

