-- ==== Sys2Proof/Laws/Blocks.lean ====
section
/-! SUPPORT. Blocks, their bytes and the byte lanes: the lemmas that say what the operand forms are, so
that no later proof unfolds them. -/

namespace Sys2Proof

@[simp] theorem Quad.bytes_length (q : Quad) : q.bytes.length = 4 := rfl

@[simp] theorem Block.bytes_length (b : Block) : b.bytes.length = 16 := by
  unfold Block.bytes
  rfl

/-- The sixteen bytes of a block, written out. -/
theorem Block.bytes_eq (b : Block) :
    b.bytes = [b.c0.a0, b.c0.a1, b.c0.a2, b.c0.a3, b.c1.a0, b.c1.a1, b.c1.a2, b.c1.a3] ++
      [b.c2.a0, b.c2.a1, b.c2.a2, b.c2.a3, b.c3.a0, b.c3.a1, b.c3.a2, b.c3.a3] := by
  unfold Block.bytes
  rfl

/-- A block is read back from its own bytes, whatever follows them. -/
@[simp] theorem Block.ofBytes_bytes_append (b : Block) (rest : List Byte) :
    Block.ofBytes (b.bytes ++ rest) = b := by
  rw [Block.bytes_eq]
  rfl

@[simp] theorem Block.ofBytes_bytes (b : Block) : Block.ofBytes b.bytes = b := by
  have := Block.ofBytes_bytes_append b []
  simpa using this

/-- Byte i of a block is element i of its bytes. -/
theorem Block.bytes_getElem (b : Block) (i : Nat) (h : i < b.bytes.length) :
    b.bytes[i] = b.byte i := by
  have h16 : i < 16 := by simpa using h
  simp only [Block.bytes_eq]
  interval_cases i <;> rfl

/-- Two blocks with the same bytes are the same block. -/
theorem Block.ext_byte {x y : Block} (h : ∀ i, i < 16 → x.byte i = y.byte i) : x = y := by
  have e : ∀ i, i < 16 → x.byte i = y.byte i := h
  ext1 <;> ext1
  · exact e 0 (by omega)
  · exact e 1 (by omega)
  · exact e 2 (by omega)
  · exact e 3 (by omega)
  · exact e 4 (by omega)
  · exact e 5 (by omega)
  · exact e 6 (by omega)
  · exact e 7 (by omega)
  · exact e 8 (by omega)
  · exact e 9 (by omega)
  · exact e 10 (by omega)
  · exact e 11 (by omega)
  · exact e 12 (by omega)
  · exact e 13 (by omega)
  · exact e 14 (by omega)
  · exact e 15 (by omega)

/-- Byte i (i < 16) of a block read from a byte list is element i of the list. -/
theorem Block.ofBytes_byte (bs : List Byte) (i : Nat) (h : i < 16) :
    (Block.ofBytes bs).byte i = bs.getD i 0 := by
  interval_cases i <;> rfl

theorem Quad.xor_self_right (x y : Quad) : (x.xor y).xor y = x := by
  ext1 <;> simp [Quad.xor]

/-- XOR with the same block twice gives the block back. -/
@[simp] theorem Block.xor_self_right (x y : Block) : (x.xor y).xor y = x := by
  ext1 <;> simp [Block.xor, Quad.xor_self_right]

/-- Byte i of an XOR is the XOR of the bytes i. -/
theorem Block.xor_byte (x y : Block) (i : Nat) (h : i < 16) :
    (x.xor y).byte i = x.byte i ^^^ y.byte i := by
  interval_cases i <;> rfl

/-- The bytes of a bus word, put back in their lanes, give the word. -/
@[simp] theorem Quad.toWord_ofWord (d : Word) : (Quad.ofWord d).toWord = d := by
  apply BitVec.eq_of_getLsbD_eq
  intro i hi
  simp only [Quad.toWord, Quad.ofWord, BitVec.getLsbD_append, BitVec.getLsbD_extractLsb']
  by_cases h0 : i < 8
  · simp [h0]
  · by_cases h1 : i < 16
    · simp [h0, show i - 8 < 8 by omega, show 8 + (i - 8) = i by omega]
    · by_cases h2 : i < 24
      · simp [h0, show ¬ i - 8 < 8 by omega, show i - 8 - 8 < 8 by omega, show 16 + (i - 8 - 8) = i by omega]
      · simp [h0, show ¬ i - 8 < 8 by omega, show ¬ i - 8 - 8 < 8 by omega,
          show i - 8 - 8 - 8 < 8 by omega, show 24 + (i - 8 - 8 - 8) = i by omega]

end Sys2Proof
end

