-- ==== Sys2Proof/Laws/GfTables.lean ====
section
/-! SUPPORT. The tables are what 40_gf_tables.md defines: their shape, and every entry equal to its
definition over all 256 bytes. -/

namespace Sys2Proof

/-- Sixteen rows of sixteen bytes. -/
def tableShape (rows : List (List Byte)) : Bool := rows.length == 16 && rows.all (·.length == 16)

/-- Every table has sixteen rows of sixteen bytes, so the default of `tableEntry` is never reached. -/
theorem tables_shape :
    [sboxRows, invSboxRows, mul2Rows, mul3Rows, mul9Rows, mul11Rows, mul13Rows, mul14Rows].all
      tableShape = true := by decide +kernel

/-- The S-box values are those of the construction of 40_gf_tables.md R165. -/
theorem sbox_eq_construction : ∀ a : Byte, sbox a = sboxConstruction a := by decide +kernel

/-- MUL2 and MUL3 as products (40_gf_tables.md R170). -/
theorem mul2_eq : ∀ b : Byte, mul2 b = gfMultiply b 2 := by decide +kernel
theorem mul3_eq : ∀ b : Byte, mul3 b = gfMultiply b 3 := by decide +kernel

/-- MUL9, MUL11, MUL13 and MUL14 as products (40_gf_tables.md R170). -/
theorem mul9_eq : ∀ b : Byte, mul9 b = gfMultiply b 9 := by decide +kernel
theorem mul11_eq : ∀ b : Byte, mul11 b = gfMultiply b 11 := by decide +kernel
theorem mul13_eq : ∀ b : Byte, mul13 b = gfMultiply b 13 := by decide +kernel
theorem mul14_eq : ∀ b : Byte, mul14 b = gfMultiply b 14 := by decide +kernel

/-- The "equivalent forms" of 40_gf_tables.md R170, in terms of xtime. -/
theorem mul2_xtime : ∀ b : Byte, mul2 b = xtime b := by decide +kernel
theorem mul3_xtime : ∀ b : Byte, mul3 b = xtime b ^^^ b := by decide +kernel
theorem mul9_xtime : ∀ b : Byte, mul9 b = xtime (xtime (xtime b)) ^^^ b := by decide +kernel
theorem mul11_xtime : ∀ b : Byte, mul11 b = xtime (xtime (xtime b)) ^^^ xtime b ^^^ b := by
  decide +kernel
theorem mul13_xtime : ∀ b : Byte, mul13 b = xtime (xtime (xtime b)) ^^^ xtime (xtime b) ^^^ b := by
  decide +kernel
theorem mul14_xtime :
    ∀ b : Byte, mul14 b = xtime (xtime (xtime b)) ^^^ xtime (xtime b) ^^^ xtime b := by
  decide +kernel

/-- xtime distributes over XOR (40_gf_tables.md R163). -/
theorem xtime_xor (a b : Byte) : xtime (a ^^^ b) = xtime a ^^^ xtime b := by
  unfold xtime
  rw [BitVec.getLsbD_xor, BitVec.shiftLeft_xor_distrib]
  cases a.getLsbD 7 <;> cases b.getLsbD 7 <;> simp [BitVec.xor_assoc, BitVec.xor_comm]
  apply BitVec.eq_of_getLsbD_eq
  intro i hi
  simp [Bool.xor_left_comm]

end Sys2Proof
end

