-- ==== Sys2Proof/Laws/Memory.lean ====
section
/-! SUPPORT. What the buffer operations do: read after write, the bytes a write leaves alone, and that
every operation keeps the canonical form. -/

namespace Sys2Proof.Machine

open Sys2Proof

@[simp] theorem Memory.find_nil (a : Nat) : Memory.find [] a = none := rfl

@[simp] theorem Memory.writeBytes_nil (m : Memory) (a : Nat) : m.writeBytes a [] = m := rfl

theorem Memory.writeBytes_cons (m : Memory) (a : Nat) (b : Byte) (bs : List Byte) :
    m.writeBytes a (b :: bs) = (m.write a b).writeBytes (a + 1) bs := rfl

/-- A write leaves every other offset alone. -/
theorem Memory.find_write_ne (m : Memory) {a o : Nat} (b : Byte) (h : o ≠ a) :
    (m.write a b).find o = m.find o := by
  induction m with
  | nil => simp [Memory.write, Memory.find, Ne.symm h]
  | cons cell rest ih =>
    obtain ⟨k, c⟩ := cell
    unfold Memory.write
    split
    · simp [Memory.find, Ne.symm h]
    · split
      · rename_i hak
        simp [Memory.find, ← hak, Ne.symm h]
      · simp only [Memory.find]
        rw [ih]

/-- A read after a write to the same offset gives the byte written. -/
@[simp] theorem Memory.find_write_self (m : Memory) (a : Nat) (b : Byte) :
    (m.write a b).find a = some b := by
  induction m with
  | nil => simp [Memory.write, Memory.find]
  | cons cell rest ih =>
    obtain ⟨k, c⟩ := cell
    unfold Memory.write
    split
    · simp [Memory.find]
    · split
      · simp [Memory.find]
      · rename_i hka
        simp only [Memory.find]
        rw [if_neg (fun h => hka h.symm), ih]

/-- A sequence write leaves every offset outside its range alone. -/
theorem Memory.find_writeBytes_outside (bs : List Byte) (m : Memory) (a o : Nat)
    (h : o < a ∨ a + bs.length ≤ o) : (m.writeBytes a bs).find o = m.find o := by
  induction bs generalizing m a with
  | nil => rfl
  | cons b rest ih =>
    simp only [List.length_cons] at h
    rw [Memory.writeBytes_cons, ih _ _ (by omega), Memory.find_write_ne _ _ (by omega)]

/-- A read after a sequence write gives the byte written at that place. -/
theorem Memory.find_writeBytes_inside (bs : List Byte) (m : Memory) (a j : Nat) (h : j < bs.length) :
    (m.writeBytes a bs).find (a + j) = some bs[j] := by
  induction bs generalizing m a j with
  | nil => simp at h
  | cons b rest ih =>
    rw [Memory.writeBytes_cons]
    cases j with
    | zero =>
      rw [Memory.find_writeBytes_outside _ _ _ _ (by omega)]
      simp
    | succ i =>
      have hi : i < rest.length := by simpa using h
      have := ih (m.write a b) (a + 1) i hi
      rw [show a + (i + 1) = a + 1 + i by omega, this]
      simp

/-- A byte that was written stays written. -/
theorem Memory.isSome_find_writeBytes (bs : List Byte) (m : Memory) (a o : Nat)
    (h : (m.find o).isSome = true) : ((m.writeBytes a bs).find o).isSome = true := by
  by_cases hi : o < a ∨ a + bs.length ≤ o
  · rw [Memory.find_writeBytes_outside _ _ _ _ hi, h]
  · obtain ⟨j, rfl⟩ : ∃ j, o = a + j := ⟨o - a, by omega⟩
    rw [Memory.find_writeBytes_inside bs m a j (by omega)]
    rfl

theorem Memory.risingFrom_mono {size lo lo' : Nat} {m : Memory} (hl : lo' ≤ lo)
    (h : Memory.risingFrom size lo m = true) : Memory.risingFrom size lo' m = true := by
  cases m with
  | nil => rfl
  | cons cell rest =>
    obtain ⟨k, c⟩ := cell
    simp only [Memory.risingFrom, Bool.and_eq_true, decide_eq_true_eq] at h ⊢
    exact ⟨⟨by omega, h.1.2⟩, h.2⟩

theorem Memory.risingFrom_write {size lo a : Nat} {m : Memory} (b : Byte)
    (h : Memory.risingFrom size lo m = true) (hlo : lo ≤ a) (ha : a < size) :
    Memory.risingFrom size lo (m.write a b) = true := by
  induction m generalizing lo with
  | nil => simp [Memory.write, Memory.risingFrom, hlo, ha]
  | cons cell rest ih =>
    obtain ⟨k, c⟩ := cell
    simp only [Memory.risingFrom, Bool.and_eq_true, decide_eq_true_eq] at h
    unfold Memory.write
    split
    · simp only [Memory.risingFrom, Bool.and_eq_true, decide_eq_true_eq]
      exact ⟨⟨hlo, ha⟩, ⟨by omega, h.1.2⟩, h.2⟩
    · split
      · rename_i hak
        simp only [Memory.risingFrom, Bool.and_eq_true, decide_eq_true_eq]
        exact ⟨⟨hlo, ha⟩, hak ▸ h.2⟩
      · simp only [Memory.risingFrom, Bool.and_eq_true, decide_eq_true_eq]
        exact ⟨h.1, ih h.2 (by omega)⟩

/-- Writing a byte inside the buffer keeps the canonical form. -/
theorem Memory.wf_write {size a : Nat} {m : Memory} (b : Byte) (h : m.wf size = true)
    (ha : a < size) : (m.write a b).wf size = true :=
  Memory.risingFrom_write b h (Nat.zero_le a) ha

/-- Writing a sequence inside the buffer keeps the canonical form. -/
theorem Memory.wf_writeBytes {size : Nat} (bs : List Byte) (m : Memory) (a : Nat)
    (h : m.wf size = true) (ha : a + bs.length ≤ size) : (m.writeBytes a bs).wf size = true := by
  induction bs generalizing m a with
  | nil => exact h
  | cons b rest ih =>
    simp only [List.length_cons] at ha
    rw [Memory.writeBytes_cons]
    exact ih _ _ (Memory.wf_write b h (by omega)) (by omega)

@[simp] theorem Memory.wf_nil (size : Nat) : Memory.wf size [] = true := rfl

theorem Memory.risingFrom_map_range (size n lo : Nat) (h : lo + n ≤ size) :
    Memory.risingFrom size lo ((List.range' lo n).map fun a => (a, (0 : Byte))) = true := by
  induction n generalizing lo with
  | zero => rfl
  | succ n ih =>
    simp only [List.range'_succ, List.map_cons, Memory.risingFrom, Bool.and_eq_true, decide_eq_true_eq]
    exact ⟨⟨le_refl _, by omega⟩, ih (lo + 1) (by omega)⟩

/-- The zeroed buffer is in canonical form. -/
theorem Memory.wf_zeroed (size : Nat) : (Memory.zeroed size).wf size = true := by
  unfold Memory.zeroed Memory.wf
  rw [List.range_eq_range']
  exact Memory.risingFrom_map_range size size 0 (by omega)

theorem Memory.find_map_range (n lo o : Nat) :
    Memory.find ((List.range' lo n).map fun a => (a, (0 : Byte))) o =
      if lo ≤ o ∧ o < lo + n then some 0 else none := by
  induction n generalizing lo with
  | zero =>
    rw [if_neg (by omega)]
    rfl
  | succ n ih =>
    simp only [List.range'_succ, List.map_cons, Memory.find]
    rw [ih]
    by_cases h : lo = o
    · rw [if_pos h, if_pos (by omega)]
    · rw [if_neg h]
      congr 1
      apply propext
      omega

/-- The zeroed buffer holds 0x00 at every offset inside it, and nothing outside. -/
theorem Memory.find_zeroed (size o : Nat) :
    (Memory.zeroed size).find o = if o < size then some 0 else none := by
  unfold Memory.zeroed
  rw [List.range_eq_range', Memory.find_map_range]
  congr 1
  apply propext
  omega

/-- Nothing is written below the first offset a rising list may hold. -/
theorem Memory.find_below {size lo : Nat} {m : Memory} (h : Memory.risingFrom size lo m = true)
    {o : Nat} (ho : o < lo) : m.find o = none := by
  induction m generalizing lo with
  | nil => rfl
  | cons cell rest ih =>
    obtain ⟨k, c⟩ := cell
    simp only [Memory.risingFrom, Bool.and_eq_true, decide_eq_true_eq] at h
    simp only [Memory.find]
    rw [if_neg (by omega)]
    exact ih h.2 (by omega)

/-- Nothing is written outside a buffer in canonical form. -/
theorem Memory.find_beyond {size lo : Nat} {m : Memory} (h : Memory.risingFrom size lo m = true)
    {o : Nat} (ho : size ≤ o) : m.find o = none := by
  induction m generalizing lo with
  | nil => rfl
  | cons cell rest ih =>
    obtain ⟨k, c⟩ := cell
    simp only [Memory.risingFrom, Bool.and_eq_true, decide_eq_true_eq] at h
    simp only [Memory.find]
    rw [if_neg (by omega)]
    exact ih h.2

end Sys2Proof.Machine
end

