-- ==== Sys2Proof/Laws/State.lean ====
section
/-! SUPPORT. The small lemmas of the state's update operations: one per field and operation, each true
by unfolding, so that no later proof unfolds a record update. -/

namespace Sys2Proof.Machine

open Sys2Proof

variable (s : State)

/-! ### `complete` -/

@[simp] theorem State.complete_cur :
    (s.complete).cur = s.cur := rfl
@[simp] theorem State.complete_busy :
    (s.complete).busy = false := rfl
@[simp] theorem State.complete_done :
    (s.complete).done = true := rfl
@[simp] theorem State.complete_werr :
    (s.complete).werr = s.werr := rfl
@[simp] theorem State.complete_error :
    (s.complete).error = s.error := rfl
@[simp] theorem State.complete_schedule :
    (s.complete).schedule = s.schedule := rfl
@[simp] theorem State.complete_keyLen :
    (s.complete).keyLen = s.keyLen := rfl
@[simp] theorem State.complete_ivLen :
    (s.complete).ivLen = s.ivLen := rfl
@[simp] theorem State.complete_traceEn :
    (s.complete).traceEn = s.traceEn := rfl
@[simp] theorem State.complete_msgLen :
    (s.complete).msgLen = s.msgLen := rfl
@[simp] theorem State.complete_doneIe :
    (s.complete).doneIe = s.doneIe := rfl
@[simp] theorem State.complete_blocks :
    (s.complete).blocks = s.blocks := rfl
@[simp] theorem State.complete_trcnt :
    (s.complete).trcnt = s.trcnt := rfl
@[simp] theorem State.complete_key :
    (s.complete).key = s.key := rfl
@[simp] theorem State.complete_iv :
    (s.complete).iv = s.iv := rfl
@[simp] theorem State.complete_stateReg :
    (s.complete).stateReg = s.stateReg := rfl
@[simp] theorem State.complete_rk :
    (s.complete).rk = s.rk := rfl
@[simp] theorem State.complete_msg :
    (s.complete).msg = s.msg := rfl
@[simp] theorem State.complete_trace :
    (s.complete).trace = s.trace := rfl
@[simp] theorem State.complete_w :
    (s.complete).w = s.w := rfl
@[simp] theorem State.complete_prev :
    (s.complete).prev = s.prev := rfl
@[simp] theorem State.complete_msgUnits :
    (s.complete).msgUnits = s.msgUnits := rfl
@[simp] theorem State.complete_resets :
    (s.complete).resets = s.resets := rfl
@[simp] theorem State.complete_entropy :
    (s.complete).entropy = s.entropy := rfl
@[simp] theorem State.complete_taken :
    (s.complete).taken = s.taken := rfl
@[simp] theorem State.complete_pending :
    (s.complete).pending = s.pending := rfl
@[simp] theorem State.complete_answer :
    (s.complete).answer = s.answer := rfl

/-! ### `raise` -/

@[simp] theorem State.raise_cur (e : CmdError) :
    (s.raise e).cur = s.cur := rfl
@[simp] theorem State.raise_busy (e : CmdError) :
    (s.raise e).busy = false := rfl
@[simp] theorem State.raise_done (e : CmdError) :
    (s.raise e).done = true := rfl
@[simp] theorem State.raise_werr (e : CmdError) :
    (s.raise e).werr = s.werr := rfl
@[simp] theorem State.raise_error (e : CmdError) :
    (s.raise e).error = some e := rfl
@[simp] theorem State.raise_schedule (e : CmdError) :
    (s.raise e).schedule = s.schedule := rfl
@[simp] theorem State.raise_keyLen (e : CmdError) :
    (s.raise e).keyLen = s.keyLen := rfl
@[simp] theorem State.raise_ivLen (e : CmdError) :
    (s.raise e).ivLen = s.ivLen := rfl
@[simp] theorem State.raise_traceEn (e : CmdError) :
    (s.raise e).traceEn = s.traceEn := rfl
@[simp] theorem State.raise_msgLen (e : CmdError) :
    (s.raise e).msgLen = s.msgLen := rfl
@[simp] theorem State.raise_doneIe (e : CmdError) :
    (s.raise e).doneIe = s.doneIe := rfl
@[simp] theorem State.raise_blocks (e : CmdError) :
    (s.raise e).blocks = s.blocks := rfl
@[simp] theorem State.raise_trcnt (e : CmdError) :
    (s.raise e).trcnt = s.trcnt := rfl
@[simp] theorem State.raise_key (e : CmdError) :
    (s.raise e).key = s.key := rfl
@[simp] theorem State.raise_iv (e : CmdError) :
    (s.raise e).iv = s.iv := rfl
@[simp] theorem State.raise_stateReg (e : CmdError) :
    (s.raise e).stateReg = s.stateReg := rfl
@[simp] theorem State.raise_rk (e : CmdError) :
    (s.raise e).rk = s.rk := rfl
@[simp] theorem State.raise_msg (e : CmdError) :
    (s.raise e).msg = s.msg := rfl
@[simp] theorem State.raise_trace (e : CmdError) :
    (s.raise e).trace = s.trace := rfl
@[simp] theorem State.raise_w (e : CmdError) :
    (s.raise e).w = s.w := rfl
@[simp] theorem State.raise_prev (e : CmdError) :
    (s.raise e).prev = s.prev := rfl
@[simp] theorem State.raise_msgUnits (e : CmdError) :
    (s.raise e).msgUnits = s.msgUnits := rfl
@[simp] theorem State.raise_resets (e : CmdError) :
    (s.raise e).resets = s.resets := rfl
@[simp] theorem State.raise_entropy (e : CmdError) :
    (s.raise e).entropy = s.entropy := rfl
@[simp] theorem State.raise_taken (e : CmdError) :
    (s.raise e).taken = s.taken := rfl
@[simp] theorem State.raise_pending (e : CmdError) :
    (s.raise e).pending = s.pending := rfl
@[simp] theorem State.raise_answer (e : CmdError) :
    (s.raise e).answer = s.answer := rfl

/-! ### `accept` -/

@[simp] theorem State.accept_cur (d : Word) :
    (s.accept d).cur = d := rfl
@[simp] theorem State.accept_busy (d : Word) :
    (s.accept d).busy = true := rfl
@[simp] theorem State.accept_done (d : Word) :
    (s.accept d).done = false := rfl
@[simp] theorem State.accept_werr (d : Word) :
    (s.accept d).werr = s.werr := rfl
@[simp] theorem State.accept_error (d : Word) :
    (s.accept d).error = none := rfl
@[simp] theorem State.accept_schedule (d : Word) :
    (s.accept d).schedule = s.schedule := rfl
@[simp] theorem State.accept_keyLen (d : Word) :
    (s.accept d).keyLen = s.keyLen := rfl
@[simp] theorem State.accept_ivLen (d : Word) :
    (s.accept d).ivLen = s.ivLen := rfl
@[simp] theorem State.accept_traceEn (d : Word) :
    (s.accept d).traceEn = s.traceEn := rfl
@[simp] theorem State.accept_msgLen (d : Word) :
    (s.accept d).msgLen = s.msgLen := rfl
@[simp] theorem State.accept_doneIe (d : Word) :
    (s.accept d).doneIe = s.doneIe := rfl
@[simp] theorem State.accept_blocks (d : Word) :
    (s.accept d).blocks = s.blocks := rfl
@[simp] theorem State.accept_trcnt (d : Word) :
    (s.accept d).trcnt = s.trcnt := rfl
@[simp] theorem State.accept_key (d : Word) :
    (s.accept d).key = s.key := rfl
@[simp] theorem State.accept_iv (d : Word) :
    (s.accept d).iv = s.iv := rfl
@[simp] theorem State.accept_stateReg (d : Word) :
    (s.accept d).stateReg = s.stateReg := rfl
@[simp] theorem State.accept_rk (d : Word) :
    (s.accept d).rk = s.rk := rfl
@[simp] theorem State.accept_msg (d : Word) :
    (s.accept d).msg = s.msg := rfl
@[simp] theorem State.accept_trace (d : Word) :
    (s.accept d).trace = s.trace := rfl
@[simp] theorem State.accept_w (d : Word) :
    (s.accept d).w = s.w := rfl
@[simp] theorem State.accept_prev (d : Word) :
    (s.accept d).prev = s.prev := rfl
@[simp] theorem State.accept_msgUnits (d : Word) :
    (s.accept d).msgUnits = s.msgUnits := rfl
@[simp] theorem State.accept_resets (d : Word) :
    (s.accept d).resets = s.resets := rfl
@[simp] theorem State.accept_entropy (d : Word) :
    (s.accept d).entropy = s.entropy := rfl
@[simp] theorem State.accept_taken (d : Word) :
    (s.accept d).taken = [] := rfl
@[simp] theorem State.accept_pending (d : Word) :
    (s.accept d).pending = s.pending := rfl
@[simp] theorem State.accept_answer (d : Word) :
    (s.accept d).answer = s.answer := rfl

/-! ### `invalidate` -/

@[simp] theorem State.invalidate_cur :
    (s.invalidate).cur = s.cur := rfl
@[simp] theorem State.invalidate_busy :
    (s.invalidate).busy = s.busy := rfl
@[simp] theorem State.invalidate_done :
    (s.invalidate).done = s.done := rfl
@[simp] theorem State.invalidate_werr :
    (s.invalidate).werr = s.werr := rfl
@[simp] theorem State.invalidate_error :
    (s.invalidate).error = s.error := rfl
@[simp] theorem State.invalidate_schedule :
    (s.invalidate).schedule = none := rfl
@[simp] theorem State.invalidate_keyLen :
    (s.invalidate).keyLen = s.keyLen := rfl
@[simp] theorem State.invalidate_ivLen :
    (s.invalidate).ivLen = s.ivLen := rfl
@[simp] theorem State.invalidate_traceEn :
    (s.invalidate).traceEn = s.traceEn := rfl
@[simp] theorem State.invalidate_msgLen :
    (s.invalidate).msgLen = s.msgLen := rfl
@[simp] theorem State.invalidate_doneIe :
    (s.invalidate).doneIe = s.doneIe := rfl
@[simp] theorem State.invalidate_blocks :
    (s.invalidate).blocks = s.blocks := rfl
@[simp] theorem State.invalidate_trcnt :
    (s.invalidate).trcnt = s.trcnt := rfl
@[simp] theorem State.invalidate_key :
    (s.invalidate).key = s.key := rfl
@[simp] theorem State.invalidate_iv :
    (s.invalidate).iv = s.iv := rfl
@[simp] theorem State.invalidate_stateReg :
    (s.invalidate).stateReg = s.stateReg := rfl
@[simp] theorem State.invalidate_rk :
    (s.invalidate).rk = s.rk := rfl
@[simp] theorem State.invalidate_msg :
    (s.invalidate).msg = s.msg := rfl
@[simp] theorem State.invalidate_trace :
    (s.invalidate).trace = s.trace := rfl
@[simp] theorem State.invalidate_w :
    (s.invalidate).w = s.w := rfl
@[simp] theorem State.invalidate_prev :
    (s.invalidate).prev = s.prev := rfl
@[simp] theorem State.invalidate_msgUnits :
    (s.invalidate).msgUnits = s.msgUnits := rfl
@[simp] theorem State.invalidate_resets :
    (s.invalidate).resets = s.resets := rfl
@[simp] theorem State.invalidate_entropy :
    (s.invalidate).entropy = s.entropy := rfl
@[simp] theorem State.invalidate_taken :
    (s.invalidate).taken = s.taken := rfl
@[simp] theorem State.invalidate_pending :
    (s.invalidate).pending = s.pending := rfl
@[simp] theorem State.invalidate_answer :
    (s.invalidate).answer = s.answer := rfl

/-! ### `expand` -/

@[simp] theorem State.expand_cur (v : Variant) :
    (s.expand v).cur = s.cur := rfl
@[simp] theorem State.expand_busy (v : Variant) :
    (s.expand v).busy = s.busy := rfl
@[simp] theorem State.expand_done (v : Variant) :
    (s.expand v).done = s.done := rfl
@[simp] theorem State.expand_werr (v : Variant) :
    (s.expand v).werr = s.werr := rfl
@[simp] theorem State.expand_error (v : Variant) :
    (s.expand v).error = s.error := rfl
@[simp] theorem State.expand_schedule (v : Variant) :
    (s.expand v).schedule = some v := rfl
@[simp] theorem State.expand_keyLen (v : Variant) :
    (s.expand v).keyLen = s.keyLen := rfl
@[simp] theorem State.expand_ivLen (v : Variant) :
    (s.expand v).ivLen = s.ivLen := rfl
@[simp] theorem State.expand_traceEn (v : Variant) :
    (s.expand v).traceEn = s.traceEn := rfl
@[simp] theorem State.expand_msgLen (v : Variant) :
    (s.expand v).msgLen = s.msgLen := rfl
@[simp] theorem State.expand_doneIe (v : Variant) :
    (s.expand v).doneIe = s.doneIe := rfl
@[simp] theorem State.expand_blocks (v : Variant) :
    (s.expand v).blocks = s.blocks := rfl
@[simp] theorem State.expand_trcnt (v : Variant) :
    (s.expand v).trcnt = s.trcnt := rfl
@[simp] theorem State.expand_key (v : Variant) :
    (s.expand v).key = s.key := rfl
@[simp] theorem State.expand_iv (v : Variant) :
    (s.expand v).iv = s.iv := rfl
@[simp] theorem State.expand_stateReg (v : Variant) :
    (s.expand v).stateReg = s.stateReg := rfl
@[simp] theorem State.expand_rk (v : Variant) :
    (s.expand v).rk = scheduleRam v s.key s.rk := rfl
@[simp] theorem State.expand_msg (v : Variant) :
    (s.expand v).msg = s.msg := rfl
@[simp] theorem State.expand_trace (v : Variant) :
    (s.expand v).trace = s.trace := rfl
@[simp] theorem State.expand_w (v : Variant) :
    (s.expand v).w = s.w := rfl
@[simp] theorem State.expand_prev (v : Variant) :
    (s.expand v).prev = s.prev := rfl
@[simp] theorem State.expand_msgUnits (v : Variant) :
    (s.expand v).msgUnits = s.msgUnits := rfl
@[simp] theorem State.expand_resets (v : Variant) :
    (s.expand v).resets = s.resets := rfl
@[simp] theorem State.expand_entropy (v : Variant) :
    (s.expand v).entropy = s.entropy := rfl
@[simp] theorem State.expand_taken (v : Variant) :
    (s.expand v).taken = s.taken := rfl
@[simp] theorem State.expand_pending (v : Variant) :
    (s.expand v).pending = s.pending := rfl
@[simp] theorem State.expand_answer (v : Variant) :
    (s.expand v).answer = s.answer := rfl

/-! ### `memWrite` -/

@[simp] theorem State.memWrite_cur (o : Nat) (bs : List Byte) :
    (s.memWrite o bs).cur = s.cur := rfl
@[simp] theorem State.memWrite_busy (o : Nat) (bs : List Byte) :
    (s.memWrite o bs).busy = s.busy := rfl
@[simp] theorem State.memWrite_done (o : Nat) (bs : List Byte) :
    (s.memWrite o bs).done = s.done := rfl
@[simp] theorem State.memWrite_werr (o : Nat) (bs : List Byte) :
    (s.memWrite o bs).werr = s.werr := rfl
@[simp] theorem State.memWrite_error (o : Nat) (bs : List Byte) :
    (s.memWrite o bs).error = s.error := rfl
@[simp] theorem State.memWrite_schedule (o : Nat) (bs : List Byte) :
    (s.memWrite o bs).schedule = s.schedule := rfl
@[simp] theorem State.memWrite_keyLen (o : Nat) (bs : List Byte) :
    (s.memWrite o bs).keyLen = s.keyLen := rfl
@[simp] theorem State.memWrite_ivLen (o : Nat) (bs : List Byte) :
    (s.memWrite o bs).ivLen = s.ivLen := rfl
@[simp] theorem State.memWrite_traceEn (o : Nat) (bs : List Byte) :
    (s.memWrite o bs).traceEn = s.traceEn := rfl
@[simp] theorem State.memWrite_msgLen (o : Nat) (bs : List Byte) :
    (s.memWrite o bs).msgLen = s.msgLen := rfl
@[simp] theorem State.memWrite_doneIe (o : Nat) (bs : List Byte) :
    (s.memWrite o bs).doneIe = s.doneIe := rfl
@[simp] theorem State.memWrite_blocks (o : Nat) (bs : List Byte) :
    (s.memWrite o bs).blocks = s.blocks := rfl
@[simp] theorem State.memWrite_trcnt (o : Nat) (bs : List Byte) :
    (s.memWrite o bs).trcnt = s.trcnt := rfl
@[simp] theorem State.memWrite_key (o : Nat) (bs : List Byte) :
    (s.memWrite o bs).key = s.key := rfl
@[simp] theorem State.memWrite_iv (o : Nat) (bs : List Byte) :
    (s.memWrite o bs).iv = s.iv := rfl
@[simp] theorem State.memWrite_stateReg (o : Nat) (bs : List Byte) :
    (s.memWrite o bs).stateReg = s.stateReg := rfl
@[simp] theorem State.memWrite_rk (o : Nat) (bs : List Byte) :
    (s.memWrite o bs).rk = s.rk := rfl
@[simp] theorem State.memWrite_msg (o : Nat) (bs : List Byte) :
    (s.memWrite o bs).msg = s.msg.writeBytes o bs := rfl
@[simp] theorem State.memWrite_trace (o : Nat) (bs : List Byte) :
    (s.memWrite o bs).trace = s.trace := rfl
@[simp] theorem State.memWrite_w (o : Nat) (bs : List Byte) :
    (s.memWrite o bs).w = s.w := rfl
@[simp] theorem State.memWrite_prev (o : Nat) (bs : List Byte) :
    (s.memWrite o bs).prev = s.prev := rfl
@[simp] theorem State.memWrite_msgUnits (o : Nat) (bs : List Byte) :
    (s.memWrite o bs).msgUnits = s.msgUnits := rfl
@[simp] theorem State.memWrite_resets (o : Nat) (bs : List Byte) :
    (s.memWrite o bs).resets = s.resets := rfl
@[simp] theorem State.memWrite_entropy (o : Nat) (bs : List Byte) :
    (s.memWrite o bs).entropy = s.entropy := rfl
@[simp] theorem State.memWrite_taken (o : Nat) (bs : List Byte) :
    (s.memWrite o bs).taken = s.taken := rfl
@[simp] theorem State.memWrite_pending (o : Nat) (bs : List Byte) :
    (s.memWrite o bs).pending = s.pending := rfl
@[simp] theorem State.memWrite_answer (o : Nat) (bs : List Byte) :
    (s.memWrite o bs).answer = s.answer := rfl

/-! ### `traceWrite` -/

@[simp] theorem State.traceWrite_cur (k : Nat) (a b c : Block) :
    (s.traceWrite k a b c).cur = s.cur := rfl
@[simp] theorem State.traceWrite_busy (k : Nat) (a b c : Block) :
    (s.traceWrite k a b c).busy = s.busy := rfl
@[simp] theorem State.traceWrite_done (k : Nat) (a b c : Block) :
    (s.traceWrite k a b c).done = s.done := rfl
@[simp] theorem State.traceWrite_werr (k : Nat) (a b c : Block) :
    (s.traceWrite k a b c).werr = s.werr := rfl
@[simp] theorem State.traceWrite_error (k : Nat) (a b c : Block) :
    (s.traceWrite k a b c).error = s.error := rfl
@[simp] theorem State.traceWrite_schedule (k : Nat) (a b c : Block) :
    (s.traceWrite k a b c).schedule = s.schedule := rfl
@[simp] theorem State.traceWrite_keyLen (k : Nat) (a b c : Block) :
    (s.traceWrite k a b c).keyLen = s.keyLen := rfl
@[simp] theorem State.traceWrite_ivLen (k : Nat) (a b c : Block) :
    (s.traceWrite k a b c).ivLen = s.ivLen := rfl
@[simp] theorem State.traceWrite_traceEn (k : Nat) (a b c : Block) :
    (s.traceWrite k a b c).traceEn = s.traceEn := rfl
@[simp] theorem State.traceWrite_msgLen (k : Nat) (a b c : Block) :
    (s.traceWrite k a b c).msgLen = s.msgLen := rfl
@[simp] theorem State.traceWrite_doneIe (k : Nat) (a b c : Block) :
    (s.traceWrite k a b c).doneIe = s.doneIe := rfl
@[simp] theorem State.traceWrite_blocks (k : Nat) (a b c : Block) :
    (s.traceWrite k a b c).blocks = s.blocks := rfl
@[simp] theorem State.traceWrite_trcnt (k : Nat) (a b c : Block) :
    (s.traceWrite k a b c).trcnt = s.trcnt := rfl
@[simp] theorem State.traceWrite_key (k : Nat) (a b c : Block) :
    (s.traceWrite k a b c).key = s.key := rfl
@[simp] theorem State.traceWrite_iv (k : Nat) (a b c : Block) :
    (s.traceWrite k a b c).iv = s.iv := rfl
@[simp] theorem State.traceWrite_stateReg (k : Nat) (a b c : Block) :
    (s.traceWrite k a b c).stateReg = s.stateReg := rfl
@[simp] theorem State.traceWrite_rk (k : Nat) (a b c : Block) :
    (s.traceWrite k a b c).rk = s.rk := rfl
@[simp] theorem State.traceWrite_msg (k : Nat) (a b c : Block) :
    (s.traceWrite k a b c).msg = s.msg := rfl
@[simp] theorem State.traceWrite_trace (k : Nat) (a b c : Block) :
    (s.traceWrite k a b c).trace = s.trace.writeBytes (48 * k) (a.bytes ++ b.bytes ++ c.bytes) := rfl
@[simp] theorem State.traceWrite_w (k : Nat) (a b c : Block) :
    (s.traceWrite k a b c).w = s.w := rfl
@[simp] theorem State.traceWrite_prev (k : Nat) (a b c : Block) :
    (s.traceWrite k a b c).prev = s.prev := rfl
@[simp] theorem State.traceWrite_msgUnits (k : Nat) (a b c : Block) :
    (s.traceWrite k a b c).msgUnits = s.msgUnits := rfl
@[simp] theorem State.traceWrite_resets (k : Nat) (a b c : Block) :
    (s.traceWrite k a b c).resets = s.resets := rfl
@[simp] theorem State.traceWrite_entropy (k : Nat) (a b c : Block) :
    (s.traceWrite k a b c).entropy = s.entropy := rfl
@[simp] theorem State.traceWrite_taken (k : Nat) (a b c : Block) :
    (s.traceWrite k a b c).taken = s.taken := rfl
@[simp] theorem State.traceWrite_pending (k : Nat) (a b c : Block) :
    (s.traceWrite k a b c).pending = s.pending := rfl
@[simp] theorem State.traceWrite_answer (k : Nat) (a b c : Block) :
    (s.traceWrite k a b c).answer = s.answer := rfl

/-! ### `setMsgLength` -/

@[simp] theorem State.setMsgLength_cur (n : Nat) :
    (s.setMsgLength n).cur = s.cur := rfl
@[simp] theorem State.setMsgLength_busy (n : Nat) :
    (s.setMsgLength n).busy = s.busy := rfl
@[simp] theorem State.setMsgLength_done (n : Nat) :
    (s.setMsgLength n).done = s.done := rfl
@[simp] theorem State.setMsgLength_werr (n : Nat) :
    (s.setMsgLength n).werr = s.werr := rfl
@[simp] theorem State.setMsgLength_error (n : Nat) :
    (s.setMsgLength n).error = s.error := rfl
@[simp] theorem State.setMsgLength_schedule (n : Nat) :
    (s.setMsgLength n).schedule = s.schedule := rfl
@[simp] theorem State.setMsgLength_keyLen (n : Nat) :
    (s.setMsgLength n).keyLen = s.keyLen := rfl
@[simp] theorem State.setMsgLength_ivLen (n : Nat) :
    (s.setMsgLength n).ivLen = s.ivLen := rfl
@[simp] theorem State.setMsgLength_traceEn (n : Nat) :
    (s.setMsgLength n).traceEn = s.traceEn := rfl
@[simp] theorem State.setMsgLength_msgLen (n : Nat) :
    (s.setMsgLength n).msgLen = BitVec.ofNat 16 n := rfl
@[simp] theorem State.setMsgLength_doneIe (n : Nat) :
    (s.setMsgLength n).doneIe = s.doneIe := rfl
@[simp] theorem State.setMsgLength_blocks (n : Nat) :
    (s.setMsgLength n).blocks = s.blocks := rfl
@[simp] theorem State.setMsgLength_trcnt (n : Nat) :
    (s.setMsgLength n).trcnt = s.trcnt := rfl
@[simp] theorem State.setMsgLength_key (n : Nat) :
    (s.setMsgLength n).key = s.key := rfl
@[simp] theorem State.setMsgLength_iv (n : Nat) :
    (s.setMsgLength n).iv = s.iv := rfl
@[simp] theorem State.setMsgLength_stateReg (n : Nat) :
    (s.setMsgLength n).stateReg = s.stateReg := rfl
@[simp] theorem State.setMsgLength_rk (n : Nat) :
    (s.setMsgLength n).rk = s.rk := rfl
@[simp] theorem State.setMsgLength_msg (n : Nat) :
    (s.setMsgLength n).msg = s.msg := rfl
@[simp] theorem State.setMsgLength_trace (n : Nat) :
    (s.setMsgLength n).trace = s.trace := rfl
@[simp] theorem State.setMsgLength_w (n : Nat) :
    (s.setMsgLength n).w = s.w := rfl
@[simp] theorem State.setMsgLength_prev (n : Nat) :
    (s.setMsgLength n).prev = s.prev := rfl
@[simp] theorem State.setMsgLength_msgUnits (n : Nat) :
    (s.setMsgLength n).msgUnits = s.msgUnits := rfl
@[simp] theorem State.setMsgLength_resets (n : Nat) :
    (s.setMsgLength n).resets = s.resets := rfl
@[simp] theorem State.setMsgLength_entropy (n : Nat) :
    (s.setMsgLength n).entropy = s.entropy := rfl
@[simp] theorem State.setMsgLength_taken (n : Nat) :
    (s.setMsgLength n).taken = s.taken := rfl
@[simp] theorem State.setMsgLength_pending (n : Nat) :
    (s.setMsgLength n).pending = s.pending := rfl
@[simp] theorem State.setMsgLength_answer (n : Nat) :
    (s.setMsgLength n).answer = s.answer := rfl

/-! ### `setBlockCount` -/

@[simp] theorem State.setBlockCount_cur (n : Nat) :
    (s.setBlockCount n).cur = s.cur := rfl
@[simp] theorem State.setBlockCount_busy (n : Nat) :
    (s.setBlockCount n).busy = s.busy := rfl
@[simp] theorem State.setBlockCount_done (n : Nat) :
    (s.setBlockCount n).done = s.done := rfl
@[simp] theorem State.setBlockCount_werr (n : Nat) :
    (s.setBlockCount n).werr = s.werr := rfl
@[simp] theorem State.setBlockCount_error (n : Nat) :
    (s.setBlockCount n).error = s.error := rfl
@[simp] theorem State.setBlockCount_schedule (n : Nat) :
    (s.setBlockCount n).schedule = s.schedule := rfl
@[simp] theorem State.setBlockCount_keyLen (n : Nat) :
    (s.setBlockCount n).keyLen = s.keyLen := rfl
@[simp] theorem State.setBlockCount_ivLen (n : Nat) :
    (s.setBlockCount n).ivLen = s.ivLen := rfl
@[simp] theorem State.setBlockCount_traceEn (n : Nat) :
    (s.setBlockCount n).traceEn = s.traceEn := rfl
@[simp] theorem State.setBlockCount_msgLen (n : Nat) :
    (s.setBlockCount n).msgLen = s.msgLen := rfl
@[simp] theorem State.setBlockCount_doneIe (n : Nat) :
    (s.setBlockCount n).doneIe = s.doneIe := rfl
@[simp] theorem State.setBlockCount_blocks (n : Nat) :
    (s.setBlockCount n).blocks = BitVec.ofNat 16 n := rfl
@[simp] theorem State.setBlockCount_trcnt (n : Nat) :
    (s.setBlockCount n).trcnt = if s.traceEn then BitVec.ofNat 16 n else 0 := rfl
@[simp] theorem State.setBlockCount_key (n : Nat) :
    (s.setBlockCount n).key = s.key := rfl
@[simp] theorem State.setBlockCount_iv (n : Nat) :
    (s.setBlockCount n).iv = s.iv := rfl
@[simp] theorem State.setBlockCount_stateReg (n : Nat) :
    (s.setBlockCount n).stateReg = s.stateReg := rfl
@[simp] theorem State.setBlockCount_rk (n : Nat) :
    (s.setBlockCount n).rk = s.rk := rfl
@[simp] theorem State.setBlockCount_msg (n : Nat) :
    (s.setBlockCount n).msg = s.msg := rfl
@[simp] theorem State.setBlockCount_trace (n : Nat) :
    (s.setBlockCount n).trace = s.trace := rfl
@[simp] theorem State.setBlockCount_w (n : Nat) :
    (s.setBlockCount n).w = s.w := rfl
@[simp] theorem State.setBlockCount_prev (n : Nat) :
    (s.setBlockCount n).prev = s.prev := rfl
@[simp] theorem State.setBlockCount_msgUnits (n : Nat) :
    (s.setBlockCount n).msgUnits = s.msgUnits := rfl
@[simp] theorem State.setBlockCount_resets (n : Nat) :
    (s.setBlockCount n).resets = s.resets := rfl
@[simp] theorem State.setBlockCount_entropy (n : Nat) :
    (s.setBlockCount n).entropy = s.entropy := rfl
@[simp] theorem State.setBlockCount_taken (n : Nat) :
    (s.setBlockCount n).taken = s.taken := rfl
@[simp] theorem State.setBlockCount_pending (n : Nat) :
    (s.setBlockCount n).pending = s.pending := rfl
@[simp] theorem State.setBlockCount_answer (n : Nat) :
    (s.setBlockCount n).answer = s.answer := rfl

/-! ### `startChain` -/

@[simp] theorem State.startChain_cur :
    (s.startChain).cur = s.cur := rfl
@[simp] theorem State.startChain_busy :
    (s.startChain).busy = s.busy := rfl
@[simp] theorem State.startChain_done :
    (s.startChain).done = s.done := rfl
@[simp] theorem State.startChain_werr :
    (s.startChain).werr = s.werr := rfl
@[simp] theorem State.startChain_error :
    (s.startChain).error = s.error := rfl
@[simp] theorem State.startChain_schedule :
    (s.startChain).schedule = s.schedule := rfl
@[simp] theorem State.startChain_keyLen :
    (s.startChain).keyLen = s.keyLen := rfl
@[simp] theorem State.startChain_ivLen :
    (s.startChain).ivLen = s.ivLen := rfl
@[simp] theorem State.startChain_traceEn :
    (s.startChain).traceEn = s.traceEn := rfl
@[simp] theorem State.startChain_msgLen :
    (s.startChain).msgLen = s.msgLen := rfl
@[simp] theorem State.startChain_doneIe :
    (s.startChain).doneIe = s.doneIe := rfl
@[simp] theorem State.startChain_blocks :
    (s.startChain).blocks = s.blocks := rfl
@[simp] theorem State.startChain_trcnt :
    (s.startChain).trcnt = s.trcnt := rfl
@[simp] theorem State.startChain_key :
    (s.startChain).key = s.key := rfl
@[simp] theorem State.startChain_iv :
    (s.startChain).iv = s.iv := rfl
@[simp] theorem State.startChain_stateReg :
    (s.startChain).stateReg = s.stateReg := rfl
@[simp] theorem State.startChain_rk :
    (s.startChain).rk = s.rk := rfl
@[simp] theorem State.startChain_msg :
    (s.startChain).msg = s.msg := rfl
@[simp] theorem State.startChain_trace :
    (s.startChain).trace = s.trace := rfl
@[simp] theorem State.startChain_w :
    (s.startChain).w = s.w := rfl
@[simp] theorem State.startChain_prev :
    (s.startChain).prev = s.iv := rfl
@[simp] theorem State.startChain_msgUnits :
    (s.startChain).msgUnits = s.msgUnits := rfl
@[simp] theorem State.startChain_resets :
    (s.startChain).resets = s.resets := rfl
@[simp] theorem State.startChain_entropy :
    (s.startChain).entropy = s.entropy := rfl
@[simp] theorem State.startChain_taken :
    (s.startChain).taken = s.taken := rfl
@[simp] theorem State.startChain_pending :
    (s.startChain).pending = s.pending := rfl
@[simp] theorem State.startChain_answer :
    (s.startChain).answer = s.answer := rfl

/-! ### `writePadding` -/

@[simp] theorem State.writePadding_cur :
    (s.writePadding).cur = s.cur := rfl
@[simp] theorem State.writePadding_busy :
    (s.writePadding).busy = s.busy := rfl
@[simp] theorem State.writePadding_done :
    (s.writePadding).done = s.done := rfl
@[simp] theorem State.writePadding_werr :
    (s.writePadding).werr = s.werr := rfl
@[simp] theorem State.writePadding_error :
    (s.writePadding).error = s.error := rfl
@[simp] theorem State.writePadding_schedule :
    (s.writePadding).schedule = s.schedule := rfl
@[simp] theorem State.writePadding_keyLen :
    (s.writePadding).keyLen = s.keyLen := rfl
@[simp] theorem State.writePadding_ivLen :
    (s.writePadding).ivLen = s.ivLen := rfl
@[simp] theorem State.writePadding_traceEn :
    (s.writePadding).traceEn = s.traceEn := rfl
@[simp] theorem State.writePadding_msgLen :
    (s.writePadding).msgLen = s.msgLen := rfl
@[simp] theorem State.writePadding_doneIe :
    (s.writePadding).doneIe = s.doneIe := rfl
@[simp] theorem State.writePadding_blocks :
    (s.writePadding).blocks = s.blocks := rfl
@[simp] theorem State.writePadding_trcnt :
    (s.writePadding).trcnt = s.trcnt := rfl
@[simp] theorem State.writePadding_key :
    (s.writePadding).key = s.key := rfl
@[simp] theorem State.writePadding_iv :
    (s.writePadding).iv = s.iv := rfl
@[simp] theorem State.writePadding_stateReg :
    (s.writePadding).stateReg = s.stateReg := rfl
@[simp] theorem State.writePadding_rk :
    (s.writePadding).rk = s.rk := rfl
@[simp] theorem State.writePadding_msg :
    (s.writePadding).msg = s.msg.writeBytes s.msgLength (padBytes s.msgLength) := rfl
@[simp] theorem State.writePadding_trace :
    (s.writePadding).trace = s.trace := rfl
@[simp] theorem State.writePadding_w :
    (s.writePadding).w = s.w := rfl
@[simp] theorem State.writePadding_prev :
    (s.writePadding).prev = s.prev := rfl
@[simp] theorem State.writePadding_msgUnits :
    (s.writePadding).msgUnits = s.msgUnits := rfl
@[simp] theorem State.writePadding_resets :
    (s.writePadding).resets = s.resets := rfl
@[simp] theorem State.writePadding_entropy :
    (s.writePadding).entropy = s.entropy := rfl
@[simp] theorem State.writePadding_taken :
    (s.writePadding).taken = s.taken := rfl
@[simp] theorem State.writePadding_pending :
    (s.writePadding).pending = s.pending := rfl
@[simp] theorem State.writePadding_answer :
    (s.writePadding).answer = s.answer := rfl

/-! ### `writeStatus` -/

@[simp] theorem State.writeStatus_cur (d : Word) :
    (s.writeStatus d).cur = s.cur := rfl
@[simp] theorem State.writeStatus_busy (d : Word) :
    (s.writeStatus d).busy = s.busy := rfl
@[simp] theorem State.writeStatus_done (d : Word) :
    (s.writeStatus d).done = (s.done && !d.getLsbD 1) := rfl
@[simp] theorem State.writeStatus_werr (d : Word) :
    (s.writeStatus d).werr = (s.werr && !d.getLsbD 3) := rfl
@[simp] theorem State.writeStatus_error (d : Word) :
    (s.writeStatus d).error = s.error := rfl
@[simp] theorem State.writeStatus_schedule (d : Word) :
    (s.writeStatus d).schedule = s.schedule := rfl
@[simp] theorem State.writeStatus_keyLen (d : Word) :
    (s.writeStatus d).keyLen = s.keyLen := rfl
@[simp] theorem State.writeStatus_ivLen (d : Word) :
    (s.writeStatus d).ivLen = s.ivLen := rfl
@[simp] theorem State.writeStatus_traceEn (d : Word) :
    (s.writeStatus d).traceEn = s.traceEn := rfl
@[simp] theorem State.writeStatus_msgLen (d : Word) :
    (s.writeStatus d).msgLen = s.msgLen := rfl
@[simp] theorem State.writeStatus_doneIe (d : Word) :
    (s.writeStatus d).doneIe = s.doneIe := rfl
@[simp] theorem State.writeStatus_blocks (d : Word) :
    (s.writeStatus d).blocks = s.blocks := rfl
@[simp] theorem State.writeStatus_trcnt (d : Word) :
    (s.writeStatus d).trcnt = s.trcnt := rfl
@[simp] theorem State.writeStatus_key (d : Word) :
    (s.writeStatus d).key = s.key := rfl
@[simp] theorem State.writeStatus_iv (d : Word) :
    (s.writeStatus d).iv = s.iv := rfl
@[simp] theorem State.writeStatus_stateReg (d : Word) :
    (s.writeStatus d).stateReg = s.stateReg := rfl
@[simp] theorem State.writeStatus_rk (d : Word) :
    (s.writeStatus d).rk = s.rk := rfl
@[simp] theorem State.writeStatus_msg (d : Word) :
    (s.writeStatus d).msg = s.msg := rfl
@[simp] theorem State.writeStatus_trace (d : Word) :
    (s.writeStatus d).trace = s.trace := rfl
@[simp] theorem State.writeStatus_w (d : Word) :
    (s.writeStatus d).w = s.w := rfl
@[simp] theorem State.writeStatus_prev (d : Word) :
    (s.writeStatus d).prev = s.prev := rfl
@[simp] theorem State.writeStatus_msgUnits (d : Word) :
    (s.writeStatus d).msgUnits = s.msgUnits := rfl
@[simp] theorem State.writeStatus_resets (d : Word) :
    (s.writeStatus d).resets = s.resets := rfl
@[simp] theorem State.writeStatus_entropy (d : Word) :
    (s.writeStatus d).entropy = s.entropy := rfl
@[simp] theorem State.writeStatus_taken (d : Word) :
    (s.writeStatus d).taken = s.taken := rfl
@[simp] theorem State.writeStatus_pending (d : Word) :
    (s.writeStatus d).pending = s.pending := rfl
@[simp] theorem State.writeStatus_answer (d : Word) :
    (s.writeStatus d).answer = s.answer := rfl

/-! ### `writeMsgLen` -/

@[simp] theorem State.writeMsgLen_cur (d : Word) :
    (s.writeMsgLen d).cur = s.cur := rfl
@[simp] theorem State.writeMsgLen_busy (d : Word) :
    (s.writeMsgLen d).busy = s.busy := rfl
@[simp] theorem State.writeMsgLen_done (d : Word) :
    (s.writeMsgLen d).done = s.done := rfl
@[simp] theorem State.writeMsgLen_werr (d : Word) :
    (s.writeMsgLen d).werr = s.werr := rfl
@[simp] theorem State.writeMsgLen_error (d : Word) :
    (s.writeMsgLen d).error = s.error := rfl
@[simp] theorem State.writeMsgLen_schedule (d : Word) :
    (s.writeMsgLen d).schedule = s.schedule := rfl
@[simp] theorem State.writeMsgLen_keyLen (d : Word) :
    (s.writeMsgLen d).keyLen = s.keyLen := rfl
@[simp] theorem State.writeMsgLen_ivLen (d : Word) :
    (s.writeMsgLen d).ivLen = s.ivLen := rfl
@[simp] theorem State.writeMsgLen_traceEn (d : Word) :
    (s.writeMsgLen d).traceEn = s.traceEn := rfl
@[simp] theorem State.writeMsgLen_msgLen (d : Word) :
    (s.writeMsgLen d).msgLen = d.extractLsb' 0 16 := rfl
@[simp] theorem State.writeMsgLen_doneIe (d : Word) :
    (s.writeMsgLen d).doneIe = s.doneIe := rfl
@[simp] theorem State.writeMsgLen_blocks (d : Word) :
    (s.writeMsgLen d).blocks = s.blocks := rfl
@[simp] theorem State.writeMsgLen_trcnt (d : Word) :
    (s.writeMsgLen d).trcnt = s.trcnt := rfl
@[simp] theorem State.writeMsgLen_key (d : Word) :
    (s.writeMsgLen d).key = s.key := rfl
@[simp] theorem State.writeMsgLen_iv (d : Word) :
    (s.writeMsgLen d).iv = s.iv := rfl
@[simp] theorem State.writeMsgLen_stateReg (d : Word) :
    (s.writeMsgLen d).stateReg = s.stateReg := rfl
@[simp] theorem State.writeMsgLen_rk (d : Word) :
    (s.writeMsgLen d).rk = s.rk := rfl
@[simp] theorem State.writeMsgLen_msg (d : Word) :
    (s.writeMsgLen d).msg = s.msg := rfl
@[simp] theorem State.writeMsgLen_trace (d : Word) :
    (s.writeMsgLen d).trace = s.trace := rfl
@[simp] theorem State.writeMsgLen_w (d : Word) :
    (s.writeMsgLen d).w = s.w := rfl
@[simp] theorem State.writeMsgLen_prev (d : Word) :
    (s.writeMsgLen d).prev = s.prev := rfl
@[simp] theorem State.writeMsgLen_msgUnits (d : Word) :
    (s.writeMsgLen d).msgUnits = s.msgUnits := rfl
@[simp] theorem State.writeMsgLen_resets (d : Word) :
    (s.writeMsgLen d).resets = s.resets := rfl
@[simp] theorem State.writeMsgLen_entropy (d : Word) :
    (s.writeMsgLen d).entropy = s.entropy := rfl
@[simp] theorem State.writeMsgLen_taken (d : Word) :
    (s.writeMsgLen d).taken = s.taken := rfl
@[simp] theorem State.writeMsgLen_pending (d : Word) :
    (s.writeMsgLen d).pending = s.pending := rfl
@[simp] theorem State.writeMsgLen_answer (d : Word) :
    (s.writeMsgLen d).answer = s.answer := rfl

/-! ### `writeIrqEn` -/

@[simp] theorem State.writeIrqEn_cur (d : Word) :
    (s.writeIrqEn d).cur = s.cur := rfl
@[simp] theorem State.writeIrqEn_busy (d : Word) :
    (s.writeIrqEn d).busy = s.busy := rfl
@[simp] theorem State.writeIrqEn_done (d : Word) :
    (s.writeIrqEn d).done = s.done := rfl
@[simp] theorem State.writeIrqEn_werr (d : Word) :
    (s.writeIrqEn d).werr = s.werr := rfl
@[simp] theorem State.writeIrqEn_error (d : Word) :
    (s.writeIrqEn d).error = s.error := rfl
@[simp] theorem State.writeIrqEn_schedule (d : Word) :
    (s.writeIrqEn d).schedule = s.schedule := rfl
@[simp] theorem State.writeIrqEn_keyLen (d : Word) :
    (s.writeIrqEn d).keyLen = s.keyLen := rfl
@[simp] theorem State.writeIrqEn_ivLen (d : Word) :
    (s.writeIrqEn d).ivLen = s.ivLen := rfl
@[simp] theorem State.writeIrqEn_traceEn (d : Word) :
    (s.writeIrqEn d).traceEn = s.traceEn := rfl
@[simp] theorem State.writeIrqEn_msgLen (d : Word) :
    (s.writeIrqEn d).msgLen = s.msgLen := rfl
@[simp] theorem State.writeIrqEn_doneIe (d : Word) :
    (s.writeIrqEn d).doneIe = d.getLsbD 0 := rfl
@[simp] theorem State.writeIrqEn_blocks (d : Word) :
    (s.writeIrqEn d).blocks = s.blocks := rfl
@[simp] theorem State.writeIrqEn_trcnt (d : Word) :
    (s.writeIrqEn d).trcnt = s.trcnt := rfl
@[simp] theorem State.writeIrqEn_key (d : Word) :
    (s.writeIrqEn d).key = s.key := rfl
@[simp] theorem State.writeIrqEn_iv (d : Word) :
    (s.writeIrqEn d).iv = s.iv := rfl
@[simp] theorem State.writeIrqEn_stateReg (d : Word) :
    (s.writeIrqEn d).stateReg = s.stateReg := rfl
@[simp] theorem State.writeIrqEn_rk (d : Word) :
    (s.writeIrqEn d).rk = s.rk := rfl
@[simp] theorem State.writeIrqEn_msg (d : Word) :
    (s.writeIrqEn d).msg = s.msg := rfl
@[simp] theorem State.writeIrqEn_trace (d : Word) :
    (s.writeIrqEn d).trace = s.trace := rfl
@[simp] theorem State.writeIrqEn_w (d : Word) :
    (s.writeIrqEn d).w = s.w := rfl
@[simp] theorem State.writeIrqEn_prev (d : Word) :
    (s.writeIrqEn d).prev = s.prev := rfl
@[simp] theorem State.writeIrqEn_msgUnits (d : Word) :
    (s.writeIrqEn d).msgUnits = s.msgUnits := rfl
@[simp] theorem State.writeIrqEn_resets (d : Word) :
    (s.writeIrqEn d).resets = s.resets := rfl
@[simp] theorem State.writeIrqEn_entropy (d : Word) :
    (s.writeIrqEn d).entropy = s.entropy := rfl
@[simp] theorem State.writeIrqEn_taken (d : Word) :
    (s.writeIrqEn d).taken = s.taken := rfl
@[simp] theorem State.writeIrqEn_pending (d : Word) :
    (s.writeIrqEn d).pending = s.pending := rfl
@[simp] theorem State.writeIrqEn_answer (d : Word) :
    (s.writeIrqEn d).answer = s.answer := rfl

/-! ### `afterTake` -/

@[simp] theorem State.afterTake_cur :
    (s.afterTake).cur = s.cur := rfl
@[simp] theorem State.afterTake_busy :
    (s.afterTake).busy = s.busy := rfl
@[simp] theorem State.afterTake_done :
    (s.afterTake).done = s.done := rfl
@[simp] theorem State.afterTake_werr :
    (s.afterTake).werr = s.werr := rfl
@[simp] theorem State.afterTake_error :
    (s.afterTake).error = s.error := rfl
@[simp] theorem State.afterTake_schedule :
    (s.afterTake).schedule = s.schedule := rfl
@[simp] theorem State.afterTake_keyLen :
    (s.afterTake).keyLen = s.keyLen := rfl
@[simp] theorem State.afterTake_ivLen :
    (s.afterTake).ivLen = s.ivLen := rfl
@[simp] theorem State.afterTake_traceEn :
    (s.afterTake).traceEn = s.traceEn := rfl
@[simp] theorem State.afterTake_msgLen :
    (s.afterTake).msgLen = s.msgLen := rfl
@[simp] theorem State.afterTake_doneIe :
    (s.afterTake).doneIe = s.doneIe := rfl
@[simp] theorem State.afterTake_blocks :
    (s.afterTake).blocks = s.blocks := rfl
@[simp] theorem State.afterTake_trcnt :
    (s.afterTake).trcnt = s.trcnt := rfl
@[simp] theorem State.afterTake_key :
    (s.afterTake).key = s.key := rfl
@[simp] theorem State.afterTake_iv :
    (s.afterTake).iv = s.iv := rfl
@[simp] theorem State.afterTake_stateReg :
    (s.afterTake).stateReg = s.stateReg := rfl
@[simp] theorem State.afterTake_rk :
    (s.afterTake).rk = s.rk := rfl
@[simp] theorem State.afterTake_msg :
    (s.afterTake).msg = s.msg := rfl
@[simp] theorem State.afterTake_trace :
    (s.afterTake).trace = s.trace := rfl
@[simp] theorem State.afterTake_w :
    (s.afterTake).w = s.w := rfl
@[simp] theorem State.afterTake_prev :
    (s.afterTake).prev = s.prev := rfl
@[simp] theorem State.afterTake_msgUnits :
    (s.afterTake).msgUnits = s.msgUnits := rfl
@[simp] theorem State.afterTake_resets :
    (s.afterTake).resets = s.resets := rfl
@[simp] theorem State.afterTake_entropy :
    (s.afterTake).entropy = s.entropy := rfl
@[simp] theorem State.afterTake_taken :
    (s.afterTake).taken = s.taken := rfl
@[simp] theorem State.afterTake_pending :
    (s.afterTake).pending = s.pending.tail := rfl
@[simp] theorem State.afterTake_answer :
    (s.afterTake).answer = s.answer := rfl

/-! ### Derived reads -/

@[simp] theorem State.complete_msgBytes :
    (s.complete).msgBytes = s.msgBytes := rfl
@[simp] theorem State.complete_msgLength :
    (s.complete).msgLength = s.msgLength := rfl
@[simp] theorem State.complete_nr :
    (s.complete).nr = s.nr := rfl
@[simp] theorem State.complete_msgByte (i : Nat) :
    (s.complete).msgByte i = s.msgByte i := rfl
@[simp] theorem State.complete_traceByte (i : Nat) :
    (s.complete).traceByte i = s.traceByte i := rfl
@[simp] theorem State.raise_msgBytes (e : CmdError) :
    (s.raise e).msgBytes = s.msgBytes := rfl
@[simp] theorem State.raise_msgLength (e : CmdError) :
    (s.raise e).msgLength = s.msgLength := rfl
@[simp] theorem State.raise_nr (e : CmdError) :
    (s.raise e).nr = s.nr := rfl
@[simp] theorem State.raise_msgByte (e : CmdError) (i : Nat) :
    (s.raise e).msgByte i = s.msgByte i := rfl
@[simp] theorem State.raise_traceByte (e : CmdError) (i : Nat) :
    (s.raise e).traceByte i = s.traceByte i := rfl
@[simp] theorem State.accept_msgBytes (d : Word) :
    (s.accept d).msgBytes = s.msgBytes := rfl
@[simp] theorem State.accept_msgLength (d : Word) :
    (s.accept d).msgLength = s.msgLength := rfl
@[simp] theorem State.accept_nr (d : Word) :
    (s.accept d).nr = s.nr := rfl
@[simp] theorem State.accept_msgByte (d : Word) (i : Nat) :
    (s.accept d).msgByte i = s.msgByte i := rfl
@[simp] theorem State.accept_traceByte (d : Word) (i : Nat) :
    (s.accept d).traceByte i = s.traceByte i := rfl
@[simp] theorem State.invalidate_msgBytes :
    (s.invalidate).msgBytes = s.msgBytes := rfl
@[simp] theorem State.invalidate_msgLength :
    (s.invalidate).msgLength = s.msgLength := rfl
@[simp] theorem State.invalidate_msgByte (i : Nat) :
    (s.invalidate).msgByte i = s.msgByte i := rfl
@[simp] theorem State.invalidate_traceByte (i : Nat) :
    (s.invalidate).traceByte i = s.traceByte i := rfl
@[simp] theorem State.expand_msgBytes (v : Variant) :
    (s.expand v).msgBytes = s.msgBytes := rfl
@[simp] theorem State.expand_msgLength (v : Variant) :
    (s.expand v).msgLength = s.msgLength := rfl
@[simp] theorem State.expand_msgByte (v : Variant) (i : Nat) :
    (s.expand v).msgByte i = s.msgByte i := rfl
@[simp] theorem State.expand_traceByte (v : Variant) (i : Nat) :
    (s.expand v).traceByte i = s.traceByte i := rfl
@[simp] theorem State.memWrite_msgBytes (o : Nat) (bs : List Byte) :
    (s.memWrite o bs).msgBytes = s.msgBytes := rfl
@[simp] theorem State.memWrite_msgLength (o : Nat) (bs : List Byte) :
    (s.memWrite o bs).msgLength = s.msgLength := rfl
@[simp] theorem State.memWrite_nr (o : Nat) (bs : List Byte) :
    (s.memWrite o bs).nr = s.nr := rfl
@[simp] theorem State.memWrite_traceByte (o : Nat) (bs : List Byte) (i : Nat) :
    (s.memWrite o bs).traceByte i = s.traceByte i := rfl
@[simp] theorem State.traceWrite_msgBytes (k : Nat) (a b c : Block) :
    (s.traceWrite k a b c).msgBytes = s.msgBytes := rfl
@[simp] theorem State.traceWrite_msgLength (k : Nat) (a b c : Block) :
    (s.traceWrite k a b c).msgLength = s.msgLength := rfl
@[simp] theorem State.traceWrite_nr (k : Nat) (a b c : Block) :
    (s.traceWrite k a b c).nr = s.nr := rfl
@[simp] theorem State.traceWrite_msgByte (k : Nat) (a b c : Block) (i : Nat) :
    (s.traceWrite k a b c).msgByte i = s.msgByte i := rfl
@[simp] theorem State.setMsgLength_msgBytes (n : Nat) :
    (s.setMsgLength n).msgBytes = s.msgBytes := rfl
@[simp] theorem State.setMsgLength_nr (n : Nat) :
    (s.setMsgLength n).nr = s.nr := rfl
@[simp] theorem State.setMsgLength_msgByte (n : Nat) (i : Nat) :
    (s.setMsgLength n).msgByte i = s.msgByte i := rfl
@[simp] theorem State.setMsgLength_traceByte (n : Nat) (i : Nat) :
    (s.setMsgLength n).traceByte i = s.traceByte i := rfl
@[simp] theorem State.setBlockCount_msgBytes (n : Nat) :
    (s.setBlockCount n).msgBytes = s.msgBytes := rfl
@[simp] theorem State.setBlockCount_msgLength (n : Nat) :
    (s.setBlockCount n).msgLength = s.msgLength := rfl
@[simp] theorem State.setBlockCount_nr (n : Nat) :
    (s.setBlockCount n).nr = s.nr := rfl
@[simp] theorem State.setBlockCount_msgByte (n : Nat) (i : Nat) :
    (s.setBlockCount n).msgByte i = s.msgByte i := rfl
@[simp] theorem State.setBlockCount_traceByte (n : Nat) (i : Nat) :
    (s.setBlockCount n).traceByte i = s.traceByte i := rfl
@[simp] theorem State.startChain_msgBytes :
    (s.startChain).msgBytes = s.msgBytes := rfl
@[simp] theorem State.startChain_msgLength :
    (s.startChain).msgLength = s.msgLength := rfl
@[simp] theorem State.startChain_nr :
    (s.startChain).nr = s.nr := rfl
@[simp] theorem State.startChain_msgByte (i : Nat) :
    (s.startChain).msgByte i = s.msgByte i := rfl
@[simp] theorem State.startChain_traceByte (i : Nat) :
    (s.startChain).traceByte i = s.traceByte i := rfl
@[simp] theorem State.writePadding_msgBytes :
    (s.writePadding).msgBytes = s.msgBytes := rfl
@[simp] theorem State.writePadding_msgLength :
    (s.writePadding).msgLength = s.msgLength := rfl
@[simp] theorem State.writePadding_nr :
    (s.writePadding).nr = s.nr := rfl
@[simp] theorem State.writePadding_traceByte (i : Nat) :
    (s.writePadding).traceByte i = s.traceByte i := rfl
@[simp] theorem State.writeStatus_msgBytes (d : Word) :
    (s.writeStatus d).msgBytes = s.msgBytes := rfl
@[simp] theorem State.writeStatus_msgLength (d : Word) :
    (s.writeStatus d).msgLength = s.msgLength := rfl
@[simp] theorem State.writeStatus_nr (d : Word) :
    (s.writeStatus d).nr = s.nr := rfl
@[simp] theorem State.writeStatus_msgByte (d : Word) (i : Nat) :
    (s.writeStatus d).msgByte i = s.msgByte i := rfl
@[simp] theorem State.writeStatus_traceByte (d : Word) (i : Nat) :
    (s.writeStatus d).traceByte i = s.traceByte i := rfl
@[simp] theorem State.writeMsgLen_msgBytes (d : Word) :
    (s.writeMsgLen d).msgBytes = s.msgBytes := rfl
@[simp] theorem State.writeMsgLen_nr (d : Word) :
    (s.writeMsgLen d).nr = s.nr := rfl
@[simp] theorem State.writeMsgLen_msgByte (d : Word) (i : Nat) :
    (s.writeMsgLen d).msgByte i = s.msgByte i := rfl
@[simp] theorem State.writeMsgLen_traceByte (d : Word) (i : Nat) :
    (s.writeMsgLen d).traceByte i = s.traceByte i := rfl
@[simp] theorem State.writeIrqEn_msgBytes (d : Word) :
    (s.writeIrqEn d).msgBytes = s.msgBytes := rfl
@[simp] theorem State.writeIrqEn_msgLength (d : Word) :
    (s.writeIrqEn d).msgLength = s.msgLength := rfl
@[simp] theorem State.writeIrqEn_nr (d : Word) :
    (s.writeIrqEn d).nr = s.nr := rfl
@[simp] theorem State.writeIrqEn_msgByte (d : Word) (i : Nat) :
    (s.writeIrqEn d).msgByte i = s.msgByte i := rfl
@[simp] theorem State.writeIrqEn_traceByte (d : Word) (i : Nat) :
    (s.writeIrqEn d).traceByte i = s.traceByte i := rfl
@[simp] theorem State.afterTake_msgBytes :
    (s.afterTake).msgBytes = s.msgBytes := rfl
@[simp] theorem State.afterTake_msgLength :
    (s.afterTake).msgLength = s.msgLength := rfl
@[simp] theorem State.afterTake_nr :
    (s.afterTake).nr = s.nr := rfl
@[simp] theorem State.afterTake_msgByte (i : Nat) :
    (s.afterTake).msgByte i = s.msgByte i := rfl
@[simp] theorem State.afterTake_traceByte (i : Nat) :
    (s.afterTake).traceByte i = s.traceByte i := rfl

end Sys2Proof.Machine
end

