-- ==== Sys2Proof/Laws/Ops.lean ====
section
/-! SUPPORT. One lemma per shared operation: what reading the buffers gives after a write, what the
entropy input gives, and what the key operations can do. -/

namespace Sys2Proof.Machine

open Sys2Proof

/-! ### MSG and TRACE -/

theorem State.msgByte_memWrite_outside (s : State) (o : Nat) (bs : List Byte) (a : Nat)
    (h : a < o ∨ o + bs.length ≤ a) : (s.memWrite o bs).msgByte a = s.msgByte a := by
  simp [State.msgByte, Memory.find_writeBytes_outside bs _ _ _ h]

theorem State.msgByte_memWrite_inside (s : State) (o : Nat) (bs : List Byte) (j : Nat)
    (h : j < bs.length) : (s.memWrite o bs).msgByte (o + j) = bs[j] := by
  simp [State.msgByte, Memory.find_writeBytes_inside bs _ _ _ h]

@[simp] theorem State.memRead_length (s : State) (o n : Nat) : (s.memRead o n).length = n := by
  simp [State.memRead]

theorem State.memRead_getElem (s : State) (o n j : Nat) (h : j < (s.memRead o n).length) :
    (s.memRead o n)[j] = s.msgByte (o + j) := by
  simp [State.memRead]

/-- Two states whose MSG bytes agree over a range read the same there. -/
theorem State.memRead_congr {s t : State} {o n : Nat}
    (h : ∀ j, j < n → t.msgByte (o + j) = s.msgByte (o + j)) : t.memRead o n = s.memRead o n := by
  unfold State.memRead
  apply List.map_congr_left
  intro j hj
  exact h j (List.mem_range.mp hj)

theorem State.memReadBlock_congr {s t : State} {o : Nat}
    (h : ∀ j, j < 16 → t.msgByte (o + j) = s.msgByte (o + j)) :
    t.memReadBlock o = s.memReadBlock o := by
  unfold State.memReadBlock
  rw [State.memRead_congr h]

/-- What was written is what is read. -/
theorem State.memRead_memWrite (s : State) (o : Nat) (bs : List Byte) :
    (s.memWrite o bs).memRead o bs.length = bs := by
  apply List.ext_getElem (by simp)
  intro j h1 h2
  rw [State.memRead_getElem, State.msgByte_memWrite_inside s o bs j h2]

@[simp] theorem State.memReadBlock_memWrite (s : State) (o : Nat) (b : Block) :
    (s.memWrite o b.bytes).memReadBlock o = b := by
  unfold State.memReadBlock
  have := State.memRead_memWrite s o b.bytes
  rw [Block.bytes_length] at this
  rw [this, Block.ofBytes_bytes]

/-- Byte i of a block read from MSG. -/
theorem State.memReadBlock_byte (s : State) (o i : Nat) (h : i < 16) :
    (s.memReadBlock o).byte i = s.msgByte (o + i) := by
  unfold State.memReadBlock
  rw [Block.ofBytes_byte _ _ h, List.getD_eq_getElem _ _ (by simpa using h), State.memRead_getElem]

theorem State.traceByte_traceWrite_outside (s : State) (k : Nat) (a b c : Block) (o : Nat)
    (h : o < 48 * k ∨ 48 * k + 48 ≤ o) : (s.traceWrite k a b c).traceByte o = s.traceByte o := by
  simp only [State.traceByte, State.traceWrite_trace, State.traceWrite_resets]
  rw [Memory.find_writeBytes_outside]
  simpa using h

/-! ### The entropy input -/

/-- When the bytes are among those offered, `draw8()` takes them in order (10_state.md R57). -/
theorem Entropy.drawMany_offered (bs rest : List Byte) (flowing : Bool) (drawn : Nat) :
    Entropy.drawMany ⟨bs ++ rest, flowing, drawn⟩ bs.length = some (bs, ⟨rest, flowing, drawn⟩) := by
  induction bs with
  | nil => rfl
  | cons b bs ih =>
    simp only [List.length_cons, Entropy.drawMany, Entropy.draw, List.cons_append, ih]

/-- `n` draws give `n` bytes. -/
theorem Entropy.drawMany_length {e e' : Entropy} {n : Nat} {bs : List Byte}
    (h : e.drawMany n = some (bs, e')) : bs.length = n := by
  induction n generalizing e e' bs with
  | zero =>
    simp only [Entropy.drawMany, Option.some.injEq, Prod.mk.injEq] at h
    simp [← h.1]
  | succ n ih =>
    simp only [Entropy.drawMany] at h
    split at h
    · simp at h
    · split at h
      · simp at h
      · rename_i heq
        simp only [Option.some.injEq, Prod.mk.injEq] at h
        rw [← h.1, List.length_cons, ih heq]

/-- A flowing source never keeps a command waiting (70_reset_and_hazards.md R422). -/
theorem Entropy.drawMany_flowing (e : Entropy) (h : e.flowing = true) (n : Nat) :
    (e.drawMany n).isSome = true := by
  induction n generalizing e with
  | zero => rfl
  | succ n ih =>
    obtain ⟨offered, flowing, drawn⟩ := e
    simp only at h
    subst h
    cases offered with
    | nil =>
      have := ih ⟨[], true, drawn + 1⟩ rfl
      simp only [Entropy.drawMany, Entropy.draw, if_true]
      revert this
      cases Entropy.drawMany ⟨[], true, drawn + 1⟩ n <;> simp
    | cons b rest =>
      have := ih ⟨rest, true, drawn⟩ rfl
      simp only [Entropy.drawMany, Entropy.draw]
      revert this
      cases Entropy.drawMany ⟨rest, true, drawn⟩ n <;> simp

/-- `draw8()` called n times, when the bytes have arrived. -/
theorem State.draws_of_le {s : State} {n : Nat} (h : n ≤ s.taken.length) :
    s.draws n = some (s.taken.take n, { s with taken := s.taken.drop n }) := by
  simp [State.draws, h]

/-- `draw8()` called n times waits while fewer bytes have arrived. -/
theorem State.draws_of_lt {s : State} {n : Nat} (h : s.taken.length < n) : s.draws n = none := by
  simp [State.draws, Nat.not_le.mpr h]

/-- Taking a byte: nothing when the source offers none, else the byte moves and nothing else changes. -/
theorem State.takeByte_cases (s : State) :
    (s.entropy.draw = none ∧ s.takeByte = s) ∨
      ∃ b e, s.entropy.draw = some (b, e) ∧
        s.takeByte = { s with entropy := e, taken := s.taken ++ [b] } := by
  unfold State.takeByte
  cases s.entropy.draw with
  | none => exact .inl ⟨rfl, rfl⟩
  | some p => exact .inr ⟨p.1, p.2, rfl, rfl⟩

/-! ### The key operations -/

/-- `CheckKey()` either raises or hands the variant on. -/
theorem State.checkKey_cases (s : State) (rest : Variant → Result) :
    (Variant.ofKeyLen s.keyLen = none ∧ s.checkKey rest = .next (s.raise .invalidKeyLength)) ∨
      ∃ v, Variant.ofKeyLen s.keyLen = some v ∧ s.checkKey rest = rest v := by
  unfold State.checkKey
  cases h : Variant.ofKeyLen s.keyLen with
  | none => exact .inl ⟨rfl, rfl⟩
  | some v => exact .inr ⟨v, rfl, rfl⟩

theorem State.checkKey_of_some {s : State} {v : Variant} (h : Variant.ofKeyLen s.keyLen = some v)
    (rest : Variant → Result) : s.checkKey rest = rest v := by
  simp [State.checkKey, h]

theorem State.checkKey_of_none {s : State} (h : Variant.ofKeyLen s.keyLen = none)
    (rest : Variant → Result) : s.checkKey rest = .next (s.raise .invalidKeyLength) := by
  simp [State.checkKey, h]

theorem State.ensureKey_of_some {s : State} {v' : Variant} (h : s.schedule = some v') (v : Variant) :
    s.ensureKey v = s := by
  simp [State.ensureKey, h]

theorem State.ensureKey_of_none {s : State} (h : s.schedule = none) (v : Variant) :
    s.ensureKey v = s.expand v := by
  simp [State.ensureKey, h]

/-- `EnsureKey()` changes the round-key RAM and the schedule's validity, and nothing else. -/
theorem State.ensureKey_frame (s : State) (v : Variant) :
    s.ensureKey v = { s with rk := (s.ensureKey v).rk, schedule := (s.ensureKey v).schedule } := by
  unfold State.ensureKey
  split <;> rfl

/-- After an expansion, RK[r] is the schedule's round key up to Nr and unchanged beyond
(41_key_schedule.md R205). -/
theorem roundKey_scheduleRam (v : Variant) (key : Vector Quad 8) (old : Vector Block 15) (r : Nat)
    (h : r < 15) :
    roundKey (scheduleRam v key old) r =
      if r ≤ v.nr then roundKeyOf (expandKey v key) r else roundKey old r := by
  simp [roundKey, scheduleRam, h]

theorem Variant.nr_lt (v : Variant) : v.nr < 15 := by cases v <;> decide

/-- Extending a word list appends to it. -/
theorem extendWords_length (nk n : Nat) (w : List Quad) :
    (extendWords nk n w).length = w.length + n := by
  induction n generalizing w with
  | zero => rfl
  | succ n ih =>
    rw [extendWords, ih]
    simp
    omega

/-- Extending a word list keeps the words it has. -/
theorem wordAt_extendWords (nk n : Nat) (w : List Quad) (i : Nat) (h : i < w.length) :
    wordAt (extendWords nk n w) i = wordAt w i := by
  induction n generalizing w with
  | zero => rfl
  | succ n ih =>
    rw [extendWords, ih _ (by simp; omega)]
    simp [wordAt, List.getD_eq_getElem?_getD, List.getElem?_append_left h]

/-! ### Ending a command -/

/-- `complete()` changes BUSY and DONE only (45_system.md R351). -/
theorem State.complete_frame (s : State) : s.complete = { s with busy := false, done := true } := rfl

/-- `raise E` changes STATUS only (60_exceptions.md R374). -/
theorem State.raise_frame (s : State) (e : CmdError) :
    s.raise e = { s with error := some e, busy := false, done := true } := rfl

/-- A loop over blocks keeps whatever each of its turns keeps. -/
theorem forBlocks_induct {body : Nat → State → State} {P : Nat → State → Prop} (n k : Nat) (s : State)
    (h0 : P k s) (hs : ∀ j t, k ≤ j → j < k + n → P j t → P (j + 1) (body j t)) :
    P (k + n) (forBlocks body n k s) := by
  induction n generalizing k s with
  | zero => exact h0
  | succ n ih =>
    have h1 : P (k + 1) (body k s) := hs k s (le_refl _) (by omega) h0
    have := ih (k + 1) (body k s) h1 (fun j t hj hlt => hs j t (by omega) (by omega))
    rw [show k + (n + 1) = k + 1 + n by omega]
    exact this

end Sys2Proof.Machine
end

