-- ==== Sys2Proof/Laws/PerInstr.lean ====
section
/-! SUPPORT. The family EncodingFields, per command: the word of a command has the command's opcode in
7:0, its round index in 11:8, and zeros in the reserved bits (30_encoding.md R130). -/

namespace Sys2Proof.Laws.EncodingFields

open Sys2Proof

/-- The fields of a command's word. -/
def Statement (i : Instr) : Prop :=
  opField (encode i) = i.opcode ∧ rkField (encode i) = i.rkBits ∧ reservedField (encode i) = 0

theorem nop : Statement .nop := by unfold Statement; decide
theorem subBytes : Statement .subBytes := by unfold Statement; decide
theorem invSubBytes : Statement .invSubBytes := by unfold Statement; decide
theorem shiftRows : Statement .shiftRows := by unfold Statement; decide
theorem invShiftRows : Statement .invShiftRows := by unfold Statement; decide
theorem mixColumns : Statement .mixColumns := by unfold Statement; decide
theorem invMixColumns : Statement .invMixColumns := by unfold Statement; decide
theorem addRoundKey (rk : Nat) : Statement (.addRoundKey rk) := by
  unfold Statement
  simp only [encode, Instr.rkBits, Instr.opcode]
  generalize BitVec.ofNat 4 rk = r
  revert r
  decide
theorem keyExpand : Statement .keyExpand := by unfold Statement; decide
theorem genKey : Statement .genKey := by unfold Statement; decide
theorem genIv : Statement .genIv := by unfold Statement; decide
theorem encBlock : Statement .encBlock := by unfold Statement; decide
theorem decBlock : Statement .decBlock := by unfold Statement; decide
theorem cbcEnc : Statement .cbcEnc := by unfold Statement; decide
theorem cbcDec : Statement .cbcDec := by unfold Statement; decide
theorem pad : Statement .pad := by unfold Statement; decide
theorem unpad : Statement .unpad := by unfold Statement; decide
theorem clear : Statement .clear := by unfold Statement; decide

end Sys2Proof.Laws.EncodingFields
end

