-- ==== Sys2Proof/Laws/Step.lean ====
section
/-! SUPPORT. What a step can be: the completion of the running command, or one event of the outside
world. -/

namespace Sys2Proof.Machine

open Sys2Proof

/-- Every command answers a next state: no meaning faults and none refuses (60_exceptions.md R370). -/
theorem exec_isNext (i : Instr) (s : State) : ∃ t, exec i s = .next t := by
  cases i <;>
    simp only [exec, execNop, execSubBytes, execInvSubBytes, execShiftRows, execInvShiftRows,
      execMixColumns, execInvMixColumns, execAddRoundKey, execKeyExpand, execGenKey, execGenIv,
      execEncBlock, execDecBlock, execCbcEnc, execCbcDec, execPad, execUnpad, execClear,
      State.singleBlock, State.checkKey] <;>
    repeat' split
  all_goals exact ⟨_, rfl⟩

/-- A step is the completion of the command in CUR, legal or illegal, or an event from outside. -/
theorem step_cases (s : State) :
    (∃ i, s.completesNext = true ∧ decode s.cur = .ok i ∧ step s = exec i s.afterTake) ∨
      (∃ e, s.completesNext = true ∧ decode s.cur = .error e ∧
        step s = .next (s.afterTake.raise .illegalCommand)) ∨
      (s.completesNext = false ∧ step s = .next (s.afterTake.applyEvent s.nextEvent)) := by
  unfold step
  cases hc : s.completesNext with
  | false => exact .inr (.inr ⟨rfl, rfl⟩)
  | true =>
    simp only [if_true, runCommand, State.afterTake_cur]
    cases hd : decode s.cur with
    | ok i => exact .inl ⟨i, trivial, rfl, rfl⟩
    | error e => exact .inr (.inl ⟨e, trivial, rfl, rfl⟩)

/-- Every step answers a next state. -/
theorem step_isNext (s : State) : ∃ t, step s = .next t := by
  obtain ⟨i, -, -, h⟩ | ⟨e, -, -, h⟩ | ⟨-, h⟩ := step_cases s
  · obtain ⟨t, ht⟩ := exec_isNext i s.afterTake
    exact ⟨t, h.trans ht⟩
  · exact ⟨_, h⟩
  · exact ⟨_, h⟩

/-- A draw event moves one byte to a command that waits for it, or changes nothing. -/
theorem State.drawEvent_cases (s : State) :
    s.drawEvent = s ∨
      ∃ b e, s.entReady = true ∧ s.entropy.draw = some (b, e) ∧
        s.drawEvent = { s with entropy := e, taken := s.taken ++ [b] } := by
  unfold State.drawEvent
  cases hr : s.entReady with
  | false => exact .inl rfl
  | true =>
    obtain ⟨-, h⟩ | ⟨b, e, hd, h⟩ := s.takeByte_cases
    · exact .inl h
    · exact .inr ⟨b, e, rfl, hd, h⟩

/-- The bytes drawn and the source do not count for what the command needs. -/
@[simp] theorem State.drawsNeeded_update (s : State) (e : Entropy) (bs : List Byte) :
    State.drawsNeeded { s with entropy := e, taken := bs } = s.drawsNeeded := rfl

end Sys2Proof.Machine
end

