-- ==== Sys2Proof/Laws/Schedule.lean ====
section
/-! SUPPORT. When the key-schedule invariant of 10_state.md R53 holds: with no schedule held, and after
`Expand()` and `EnsureKey()` with the variant of the key length. -/

namespace Sys2Proof.Machine

open Sys2Proof

/-- With no schedule held there is nothing the invariant asks for. -/
theorem State.scheduleOk_of_none {s : State} (h : s.schedule = none) : s.ScheduleOk := by
  intro v hv
  rw [h] at hv
  cases hv

/-- `Expand()` leaves the schedule of the current key held (41_key_schedule.md R205). -/
theorem State.expand_scheduleOk {s : State} {v : Variant} (h : Variant.ofKeyLen s.keyLen = some v) :
    (s.expand v).ScheduleOk := by
  intro v' hv'
  obtain rfl : v = v' := by simpa using hv'
  refine ⟨by simpa using h, fun r hr => ?_⟩
  have h15 : r < 15 := lt_of_le_of_lt hr (Variant.nr_lt v)
  simp [roundKey_scheduleRam v s.key s.rk r h15, hr]

/-- `EnsureKey()` keeps a good schedule and builds one where none is held (41_key_schedule.md R206). -/
theorem State.ensureKey_scheduleOk {s : State} {v : Variant} (hs : s.ScheduleOk)
    (h : Variant.ofKeyLen s.keyLen = some v) :
    (s.ensureKey v).ScheduleOk ∧ (s.ensureKey v).schedule = some v := by
  cases hc : s.schedule with
  | none => simpa [State.ensureKey_of_none hc] using State.expand_scheduleOk h
  | some v' =>
    rw [State.ensureKey_of_some hc]
    have := (hs v' hc).1
    rw [h] at this
    exact ⟨hs, hc.trans this.symm⟩

end Sys2Proof.Machine
end

