-- ==== Sys2Proof/Tests/Slice0.lean ====
section
/-! SUPPORT. The model's own tests: the ill-formed command, every command's word written out from
30_encoding.md R134, one or two steps per command with the values of 95_test_vectors.md, and for each
statement with hypotheses a named state and operands that meet them. -/

namespace Sys2Proof.Tests

open Sys2Proof Sys2Proof.Machine

-- One kernel evaluation at a time: each pending one holds a thread and its stack.
set_option Elab.async false

/-! ### WellFormed and the encoding -/

/-- The round index is 0..15 (30_encoding.md R132). -/
theorem test_wellFormed_roundIndex :
    (Instr.addRoundKey 16).wellFormed = false ∧ (Instr.addRoundKey 15).wellFormed = true ∧
      (Instr.addRoundKey 0).wellFormed = true := by decide

-- 30_encoding.md R134: the match column, bits 31..0, the RK field of ADDROUNDKEY at 1011 and at its ends.
theorem test_decode_nop : decode 0b00000000000000000000000000000000 = .ok .nop := by decide
theorem test_decode_subBytes : decode 0b00000000000000000000000000000001 = .ok .subBytes := by decide
theorem test_decode_invSubBytes : decode 0b00000000000000000000000000000010 = .ok .invSubBytes := by decide
theorem test_decode_shiftRows : decode 0b00000000000000000000000000000011 = .ok .shiftRows := by decide
theorem test_decode_invShiftRows : decode 0b00000000000000000000000000000100 = .ok .invShiftRows := by decide
theorem test_decode_mixColumns : decode 0b00000000000000000000000000000101 = .ok .mixColumns := by decide
theorem test_decode_invMixColumns : decode 0b00000000000000000000000000000110 = .ok .invMixColumns := by decide
theorem test_decode_addRoundKey :
    decode 0b00000000000000000000101100000111 = .ok (.addRoundKey 11) ∧
      decode 0b00000000000000000000000000000111 = .ok (.addRoundKey 0) ∧
      decode 0b00000000000000000000111100000111 = .ok (.addRoundKey 15) := by decide
theorem test_decode_keyExpand : decode 0b00000000000000000000000000010000 = .ok .keyExpand := by decide
theorem test_decode_genKey : decode 0b00000000000000000000000000010001 = .ok .genKey := by decide
theorem test_decode_genIv : decode 0b00000000000000000000000000010010 = .ok .genIv := by decide
theorem test_decode_encBlock : decode 0b00000000000000000000000000100000 = .ok .encBlock := by decide
theorem test_decode_decBlock : decode 0b00000000000000000000000000100001 = .ok .decBlock := by decide
theorem test_decode_cbcEnc : decode 0b00000000000000000000000000110000 = .ok .cbcEnc := by decide
theorem test_decode_cbcDec : decode 0b00000000000000000000000000110001 = .ok .cbcDec := by decide
theorem test_decode_pad : decode 0b00000000000000000000000001000000 = .ok .pad := by decide
theorem test_decode_unpad : decode 0b00000000000000000000000001000001 = .ok .unpad := by decide
theorem test_decode_clear : decode 0b00000000000000000000000001110000 = .ok .clear := by decide

/-- The illegal words of L2-SYS in 95_test_vectors.md. -/
theorem test_decode_illegal :
    ([0x00000008, 0x00000013, 0x00000022, 0x00000032, 0x00000042] ++
      [0x00000071, 0x000000FF, 0x00001000, 0x00000110, 0x80000030, 0x00000101] : List Word).all
      (fun w => match decode w with | .ok _ => false | .error _ => true) = true := by decide

/-- The words of ADDROUNDKEY in 95_test_vectors.md (L2-STAGE-7c, 7e) are what the encoder gives. -/
theorem test_encode : encode (.addRoundKey 11) = 0x00000B07 ∧ encode (.addRoundKey 15) = 0x00000F07 ∧
    encode .cbcEnc = 0x00000030 := by decide

theorem test_decodeTableWord : decodeTableWord 32 0xB07 = some (.addRoundKey 11) ∧
    decodeTableWord 32 0x70 = some .clear ∧ decodeTableWord 32 0x1000 = none := by decide

/-! ### Tables (L2-GF) -/

theorem test_gf : xtime 0x57 = 0xAE ∧ xtime 0x80 = 0x1B ∧ gfMultiply 0x57 0x83 = 0xC1 ∧
    gfMultiply 0x57 0x13 = 0xFE := by decide +kernel
theorem test_sbox : [0x00, 0x01, 0x10, 0x53, 0xFF].map sbox = [0x63, 0x7C, 0xCA, 0xED, 0x16] ∧
    [0x00, 0x63, 0xED, 0x16, 0x7C].map invSbox = [0x52, 0x00, 0x53, 0xFF, 0x01] := by decide +kernel
theorem test_mul : [0x01, 0x80, 0xFF, 0x57].map mul2 = [0x02, 0x1B, 0xE5, 0xAE] ∧
    [0x01, 0x80, 0xFF, 0x57].map mul3 = [0x03, 0x9B, 0x1A, 0xF9] ∧
    [0x01, 0x80, 0xFF, 0x57].map mul9 = [0x09, 0xEC, 0x46, 0xD9] ∧
    [0x01, 0x80, 0xFF, 0x57].map mul11 = [0x0B, 0xF7, 0xA3, 0x77] ∧
    [0x01, 0x80, 0xFF, 0x57].map mul13 = [0x0D, 0xDA, 0x97, 0x9E] ∧
    [0x01, 0x80, 0xFF, 0x57].map mul14 = [0x0E, 0x41, 0x8D, 0x67] := by decide +kernel
theorem test_rcon : ((List.range 10).map fun i => rcon (i + 1)) =
    [0x01, 0x02, 0x04, 0x08, 0x10, 0x20, 0x40, 0x80, 0x1B, 0x36] := by decide +kernel

/-! ### Helpers: blocks from their hex text, states, and the next state of a command's step -/

/-- A block from its hex text, first byte first (00_scope.md R7). -/
def blk (n : Nat) : Block :=
  Block.ofBytes ((List.range 16).map fun i => BitVec.ofNat 8 (n >>> (8 * (15 - i))))

/-- Bytes written from an offset of a buffer that holds no other written byte. -/
def written (o : Nat) (bs : List Byte) : Memory := Memory.writeBytes [] o bs

/-- The key register with bytes 0, 1, …, n − 1 (`K128`, `K192`, `K256` of 95_test_vectors.md). -/
def kSeq (n : Nat) : Vector Quad 8 := keyOfBytes ((List.range n).map fun i => BitVec.ofNat 8 i)

/-- The reset state with a STATE register. -/
def staged (b : Block) : State := { State.reset with stateReg := b }

/-- The reset state with `K128`. -/
def k128 : State := { State.reset with keyLen := 16, key := kSeq 16 }

/-- The reset state with `K192`. -/
def k192 : State := { State.reset with keyLen := 24, key := kSeq 24 }

/-- The reset state with `K256`. -/
def k256 : State := { State.reset with keyLen := 32, key := kSeq 32 }

/-- The "HELLO" scenario: zero key, zero IV, traced (L2-CBC-1). -/
def hello : State := { State.reset with
  keyLen := 16, ivLen := 16, traceEn := true, msgLen := 5
  msg := written 0 [0x48, 0x45, 0x4c, 0x4c, 0x4f] }

/-- The ciphertext of "HELLO" in MSG, ready for CBC_DEC (L2-CBC-2). -/
def helloCipher : State := { State.reset with
  keyLen := 16, ivLen := 16, traceEn := true, msgLen := 16
  msg := written 0 (blk 0xb8653eddbef0f60b0c1f39cc3e2328be).bytes }

/-- An entropy source that offers the given bytes and no more. -/
def offering (bs : List Byte) : Entropy := ⟨bs, false, 0⟩

/-- Sixteen bytes from b on. -/
def drawsFrom (b : Nat) : List Byte := (List.range 16).map fun i => BitVec.ofNat 8 (b + i)

/-- The step that runs command word w in s answers a next state with p. -/
def runs (s : State) (w : Nat) (p : State → Bool) : Bool :=
  match step (s.withFetchWord 32 w) with
  | .next t => p t
  | _ => false

/-! ### Every command runs as the first one after reset -/

theorem test_first_instruction :
    ([0x00, 0x01, 0x02, 0x03, 0x04, 0x05, 0x06, 0x07, 0x10] ++
      [0x11, 0x12, 0x20, 0x21, 0x30, 0x31, 0x40, 0x41, 0x70] : List Nat).all
      (fun w => runs State.reset w fun t => t.done && !t.busy) = true := by decide +kernel

/-! ### The single-stage commands (L2-STAGE) -/

theorem test_subBytes : runs (staged (blk 0x00102030405060708090a0b0c0d0e0f0)) 0x01
    (fun t => t.stateReg = blk 0x63cab7040953d051cd60e0e7ba70e18c ∧ t.statusWord = 0x00000002) = true := by
  decide +kernel
theorem test_invSubBytes : runs (staged (blk 0x63cab7040953d051cd60e0e7ba70e18c)) 0x02
    (fun t => t.stateReg = blk 0x00102030405060708090a0b0c0d0e0f0) = true := by decide +kernel
theorem test_shiftRows : runs (staged (blk 0x000102030405060708090a0b0c0d0e0f)) 0x03
    (fun t => t.stateReg = blk 0x00050a0f04090e03080d02070c01060b) = true := by decide +kernel
theorem test_invShiftRows : runs (staged (blk 0x000102030405060708090a0b0c0d0e0f)) 0x04
    (fun t => t.stateReg = blk 0x000d0a0704010e0b0805020f0c090603) = true := by decide +kernel
theorem test_mixColumns : runs (staged (blk 0xdb135345f20a225cd4d4d4d52d26314c)) 0x05
    (fun t => t.stateReg = blk 0x8e4da1bc9fdc589dd5d5d7d64d7ebdf8) = true := by decide +kernel
theorem test_invMixColumns : runs (staged (blk 0x8e4da1bc9fdc589dd5d5d7d64d7ebdf8)) 0x06
    (fun t => t.stateReg = blk 0xdb135345f20a225cd4d4d4d52d26314c) = true := by decide +kernel

/-- L2-STAGE-7a. -/
theorem test_addRoundKey : runs { k128 with stateReg := blk 0x5f72641557f5bc92f7be3b291db9f91a } 0x107
    (fun t => t.stateReg = blk 0x89d810e8855ace682d1843d8cb128fe4 ∧ t.statusWord = 0x000A0012) = true := by
  decide +kernel
/-- L2-STAGE-7c, 7d, 7e: the range check, and the key check before it. -/
theorem test_addRoundKey_errors :
    runs k128 0xB07 (fun t => t.statusWord = 0x00000B06 ∧ t.stateReg = k128.stateReg) = true ∧
    runs k192 0xD07 (fun t => t.errCode = 11) = true ∧
    runs State.reset 0xF07 (fun t => t.errCode = 1) = true := by decide +kernel

/-! ### The key schedule (L2-KS) -/

/-- L2-KS-1: RK[1] and RK[10]. -/
theorem test_keyExpand_128 : runs k128 0x10
    (fun t => roundKey t.rk 1 = blk 0xd6aa74fdd2af72fadaa678f1d6ab76fe ∧
      roundKey t.rk 10 = blk 0x13111d7fe3944a17f307a78b4d2b30c5 ∧ t.statusWord = 0x000A0012) = true := by
  decide +kernel
/-- L2-KS-2, L2-KS-3: the last round keys of the longer keys. -/
theorem test_keyExpand_long :
    runs k192 0x10 (fun t => roundKey t.rk 12 = blk 0xa4970a331a78dc09c418c271e3a41d5d ∧
      t.statusWord = 0x000C0012) = true ∧
    runs k256 0x10 (fun t => roundKey t.rk 14 = blk 0x24fc79ccbf0979e9371ac23c6d68de36 ∧
      t.statusWord = 0x000E0012) = true := by decide +kernel

/-- L2-KS-7: GEN_KEY with draws 0, 1, …, 15; with KEYLEN 20 it draws nothing. -/
theorem test_genKey :
    runs { State.reset with keyLen := 16, entropy := offering (drawsFrom 0) } 0x11
      (fun t => t.key = kSeq 16 ∧ t.statusWord = 0x00000002 ∧ t.entropy = offering []) = true ∧
    runs { State.reset with keyLen := 20, entropy := offering (drawsFrom 0) } 0x11
      (fun t => t.errCode = 1 ∧ t.entropy = offering (drawsFrom 0)) = true := by decide +kernel
/-- 70_reset_and_hazards.md R418: with fifteen bytes offered, GEN_KEY is still running. -/
theorem test_genKey_holds :
    runs { State.reset with keyLen := 16, entropy := offering (drawsFrom 0).tail } 0x11
      (fun t => t.busy = true ∧ t.done = false ∧ t.entReady = true) = true := by decide +kernel

/-- P5: GEN_IV with draws A0..AF. -/
theorem test_genIv : runs { State.reset with keyLen := 16, entropy := offering (drawsFrom 0xA0) } 0x12
    (fun t => t.iv = blk 0xa0a1a2a3a4a5a6a7a8a9aaabacadaeaf ∧ t.cfgWord = 0x00001010) = true := by
  decide +kernel

/-- 20_memory.md R91: one byte moves while GEN_IV waits, the last one ends the wait, and none moves then. -/
theorem test_genIv_last_byte :
    (match step { State.reset.accept 0x12 with taken := (drawsFrom 0).tail, entropy := offering [7, 9] } with
      | .next t => decide (t.taken = (drawsFrom 0).tail ++ [7] ∧ t.entropy = offering [9] ∧ t.busy = true) &&
          !t.entReady && decide (t.drawEvent.taken = t.taken)
      | _ => false) = true := by decide +kernel

/-! ### Single blocks (L2-BLK) -/

/-- L1-1, L2-BLK-1. -/
theorem test_encBlock : runs { k128 with
      msgLen := 16, msg := written 0 (blk 0x00112233445566778899aabbccddeeff).bytes } 0x20
    (fun t => t.memReadBlock 0 = blk 0x69c4e0d86a7b0430d8cdb78070b4c55a ∧ t.statusWord = 0x000A0012) = true := by
  decide +kernel
/-- L2-BLK-8, L2-BLK-9. -/
theorem test_encBlock_errors :
    runs { k128 with msgLen := 15 } 0x20 (fun t => t.errCode = 3) = true ∧
    runs { State.reset with msgLen := 15 } 0x20 (fun t => t.errCode = 1) = true := by decide +kernel

/-- L2-BLK-7 for the 256-bit key. -/
theorem test_decBlock : runs { k256 with
      msgLen := 16, msg := written 0 (blk 0x8ea2b7ca516745bfeafc49904b496089).bytes } 0x21
    (fun t => t.memReadBlock 0 = blk 0x00112233445566778899aabbccddeeff ∧ t.statusWord = 0x000E0012) = true := by
  decide +kernel
/-- L2-BLK-8. -/
theorem test_decBlock_errors : runs { k128 with msgLen := 32 } 0x21 (fun t => t.errCode = 3) = true := by
  decide +kernel

/-! ### CBC (L2-CBC) -/

/-- L2-CBC-1. -/
theorem test_cbcEnc : runs hello 0x30
    (fun t => t.memReadBlock 0 = blk 0xb8653eddbef0f60b0c1f39cc3e2328be ∧ t.msgLen = 16 ∧
      t.cfgWord = 0x00010010 ∧ t.blkCntWord = 0x00010001 ∧ t.statusWord = 0x000A0012 ∧
      t.traceField 0 1 = blk 0x48454c4c4f0b0b0b0b0b0b0b0b0b0b0b ∧
      t.traceField 0 2 = blk 0xb8653eddbef0f60b0c1f39cc3e2328be) = true := by decide +kernel
/-- L2-CBC-7: a full pad block, and the chain through C0. -/
theorem test_cbcEnc_two_blocks : runs { hello with
      traceEn := false, msgLen := 16, msg := written 0 (blk 0x000102030405060708090a0b0c0d0e0f).bytes } 0x30
    (fun t => t.memReadBlock 0 = blk 0x7aca0fd9bcd6ec7c9f97466616e6a282 ∧
      t.memReadBlock 16 = blk 0x5786294e6427830e6ca319c50acea3fd ∧ t.msgLen = 32 ∧
      t.blkCntWord = 0x00000002) = true := by decide +kernel

/-- L2-CBC-2. -/
theorem test_cbcDec : runs helloCipher 0x31
    (fun t => t.memReadBlock 0 = blk 0x48454c4c4f0b0b0b0b0b0b0b0b0b0b0b ∧ t.msgLen = 5 ∧
      t.blkCntWord = 0x00010001 ∧ t.ivLen = 16 ∧
      t.traceField 0 0 = blk 0xb8653eddbef0f60b0c1f39cc3e2328be ∧
      t.traceField 0 2 = blk 0x48454c4c4f0b0b0b0b0b0b0b0b0b0b0b) = true := by decide +kernel
/-- L2-CBC-3: a wrong IV, caught by the padding. -/
theorem test_cbcDec_fails : runs { helloCipher with iv := blk 1 } 0x31
    (fun t => t.statusWord = 0x000A0816 ∧ t.memReadBlock 0 = zeroBlock ∧ t.msgLen = 0 ∧
      t.blkCntWord = 0 ∧ t.traceField 0 2 = zeroBlock) = true := by decide +kernel

/-! ### Padding (L2-PAD) -/

theorem test_pad : runs hello 0x40
    (fun t => t.memReadBlock 0 = blk 0x48454c4c4f0b0b0b0b0b0b0b0b0b0b0b ∧ t.msgLen = 16) = true := by
  decide +kernel
theorem test_pad_limits : runs { State.reset with msgLen := 4095 } 0x40 (fun t => t.msgLen = 4096) = true ∧
    runs { State.reset with msgLen := 4096 } 0x40 (fun t => t.errCode = 10) = true := by decide +kernel
theorem test_unpad : runs { State.reset with
      msgLen := 16, msg := written 0 (blk 0x48454c4c4f0b0b0b0b0b0b0b0b0b0b0b).bytes } 0x41
    (fun t => t.msgLen = 5 ∧ t.errCode = 0) = true := by decide +kernel
/-- The errors of UNPAD: empty, a non-last pad byte, more pad bytes than bytes, beyond the buffer. -/
theorem test_unpad_errors :
    runs State.reset 0x41 (fun t => t.errCode = 6) = true ∧
    runs { State.reset with
        msgLen := 16, msg := written 0 (blk 0x0f101010101010101010101010101010).bytes } 0x41
      (fun t => t.errCode = 7 ∧ t.msgLen = 16) = true ∧
    runs { State.reset with msgLen := 2, msg := written 0 [0x03, 0x03] } 0x41 (fun t => t.errCode = 7) = true ∧
    runs { State.reset with msgLen := 4097 } 0x41 (fun t => t.errCode = 10) = true := by decide +kernel

/-! ### NOP, CLEAR, illegal words (L2-SYS) -/

theorem test_nop : runs { State.reset with doneIe := true } 0x00
    (fun t => t.statusWord = 0x00000002 ∧ t.irq = true ∧
      (t.busWrite 0x008 0x00000002).1.irq = false ∧
      (t.busWrite 0x008 0x00000002).1.statusWord = 0) = true := by decide +kernel
theorem test_clear : runs { k128.expand .aes128 with werr := true, traceEn := true, trcnt := 1, blocks := 1 } 0x70
    (fun t => t.statusWord = 0x0000000A ∧ t.cfgWord = 0x00010000 ∧ t.blkCntWord = 0 ∧
      t.busRead 0x100 = ⟨0, false⟩ ∧ t.busRead 0x210 = ⟨0, false⟩ ∧ t.msgByte 4095 = 0) = true := by
  decide +kernel
theorem test_illegal : runs k128 0x110
    (fun t => t.statusWord = 0x00000906 ∧ t.busRead 0x004 = ⟨0x110, false⟩ ∧ t.key = k128.key) = true := by
  decide +kernel

/-! ### The bus (L2-BUS) and reset (L2-RESET) -/

theorem test_bus_reads :
    State.reset.busRead 0x000 = ⟨0x41455343, false⟩ ∧ State.reset.busRead 0x01C = ⟨0x00001000, false⟩ ∧
    State.reset.busRead 0x002 = ⟨0, true⟩ ∧ State.reset.busRead 0x020 = ⟨0, true⟩ ∧
    State.reset.busRead 0x140 = ⟨0, true⟩ ∧ State.reset.busRead 0x2F0 = ⟨0, true⟩ ∧
    State.reset.busRead 0x11000 = ⟨0, true⟩ ∧ State.reset.busRead 0x23000 = ⟨0, true⟩ ∧
    State.reset.busRead 0x200 = ⟨0, false⟩ ∧ State.reset.busRead 0x20000 = ⟨0, false⟩ := by decide +kernel

theorem test_bus_writes :
    (State.reset.busWrite 0x000 7).2 = true ∧ (State.reset.busWrite 0x018 7).2 = true ∧
    (State.reset.busWrite 0x20000 7).2 = true ∧
    (State.reset.busWrite 0x10000 0x33221100).1.memRead 0 4 = [0x00, 0x11, 0x22, 0x33] ∧
    (State.reset.busWrite 0x00C 0xFFFFFFFF).1.cfgWord = 0x0001FFFF ∧
    (k128.busWrite 0x130 0x03020100).1.stateReg = blk 0x00010203000000000000000000000000 := by decide +kernel

theorem test_bus_busy :
    ({ hello with busy := true }).busRead 0x10000 = ⟨0, false⟩ ∧
    ({ hello with busy := true }).busRead 0x010 = ⟨5, false⟩ ∧
    ({ hello with busy := true }).busWrite 0x120 7 = ({ hello with busy := true, werr := true }, false) ∧
    (({ hello with busy := true }).busWrite 0x014 1).1.doneIe = true := by
  refine ⟨by decide +kernel, by decide +kernel, rfl, by decide +kernel⟩

/-- L2-KS-1 through the RKEY view. -/
theorem test_rkey_view :
    (k128.expand .aes128).busRead 0x210 = ⟨0xFD74AAD6, false⟩ ∧
    (k128.expand .aes128).busRead 0x21C = ⟨0xFE76ABD6, false⟩ ∧
    (k128.expand .aes128).busRead 0x2B0 = ⟨0, false⟩ := by decide +kernel

/-- L2-RESET: a reset while CBC_ENC runs; MSG holds no written byte afterwards. -/
theorem test_reset_event :
    (match step { hello with busy := true, cur := 0x30, pending := [.reset] } with
      | .next t => decide (t.statusWord = 0 ∧ t.msgLen = 0 ∧ t.msg = [] ∧ t.cur = 0 ∧ t.irq = false)
      | _ => false) = true := by decide +kernel

/-! ### Witnesses: for every statement with hypotheses, states and operands that meet them

Each is named after its statement; one conjunct or one theorem per clause, at the ends of its range. -/

/-- A state whose next event is a host write. -/
def writing (s : State) (a : BitVec 20) (d : Word) : State := { s with pending := [.busWrite a d] }

/-- K128 with its schedule held. -/
def held128 : State := k128.expand .aes128

theorem k128_scheduleOk : k128.ScheduleOk := State.scheduleOk_of_none rfl
theorem held128_scheduleOk : held128.ScheduleOk := State.expand_scheduleOk rfl
theorem hello_scheduleOk : hello.ScheduleOk := State.scheduleOk_of_none rfl
theorem helloCipher_scheduleOk : helloCipher.ScheduleOk := State.scheduleOk_of_none rfl
theorem reset_statusOk : State.reset.StatusOk := by
  intro h
  cases h

theorem witness_DecodeInvertsEncode :
    (Instr.addRoundKey 0).wellFormed = true ∧ (Instr.addRoundKey 15).wellFormed = true ∧
      Instr.clear.wellFormed = true := by decide

theorem witness_EncodeInvertsDecode :
    decode 0x00000F07 = .ok (.addRoundKey 15) ∧ decode 0x00000000 = .ok .nop := by decide

theorem witness_DecoderFollowsEncodingTable :
    (⟨"ADDROUNDKEY", 0x00000007, 0xFFFFF0FF⟩ ∈ encodingTable ∧
      EncodingRow.admits ⟨"ADDROUNDKEY", 0x00000007, 0xFFFFF0FF⟩ 0x00000F07 = true) ∧
    decode 0x00000007 = .ok (.addRoundKey 0) ∧ (∀ row ∈ encodingTable, row.admits 0x00000008 = false) := by
  decide

theorem witness_StepRunsDecodedCommand :
    (State.reset.withCommand 0x40).busy = true ∧ (State.reset.withCommand 0x40).nextEvent = .complete ∧
      decode (State.reset.withCommand 0x40).cur = .ok .pad := by decide +kernel
/-- With no event to come the running command's completion is next. -/
theorem witness_StepRunsDecodedCommand_alone :
    (State.reset.accept 0xF07).busy = true ∧ (State.reset.accept 0xF07).nextEvent = .complete ∧
      decode (State.reset.accept 0xF07).cur = .ok (.addRoundKey 15) := by decide +kernel

theorem witness_IllegalWordCompletes :
    (State.reset.withCommand 0x110).busy = true ∧ (State.reset.withCommand 0x110).nextEvent = .complete ∧
      decode (State.reset.withCommand 0x110).cur = .error .roundKeyField := by decide +kernel

theorem witness_CommandAcceptance :
    (writing State.reset 0x004 0x30).pending = .busWrite 0x004 0x30 :: [] ∧
      (writing State.reset 0x004 0x30).busy = false ∧
    (writing (State.reset.accept 0x40) 0x004 0x30).pending = .busWrite 0x004 0x30 :: [] ∧
      (writing (State.reset.accept 0x40) 0x004 0x30).busy = true := ⟨rfl, rfl, rfl, rfl⟩

/-- A running GEN_KEY of K256 that waits for all its bytes, before a source that always offers one. -/
theorem witness_EveryCommandEndsByCompletion :
    (k256.accept 0x11).busy = true ∧ (k256.accept 0x11).pending = [] ∧
      (k256.accept 0x11).entropy.flowing = true ∧
      (k256.accept 0x11).drawsNeeded - (k256.accept 0x11).taken.length + 1 = 33 := by decide +kernel

/-- Every error a check raises, at the ends of the ranges the checks divide. -/
theorem witness_FirstFailingCheckIsReported_errors :
    checkFailure .keyExpand { State.reset with keyLen := 17 } = some .invalidKeyLength ∧
    checkFailure (.addRoundKey 11) k128 = some .invalidRoundIndex ∧
    checkFailure .encBlock { k128 with msgLen := 15 } = some .invalidBlockLength ∧
    checkFailure .cbcEnc { k128 with ivLen := 15 } = some .invalidIVLength ∧
    checkFailure .cbcEnc { k128 with msgLen := 4096 } = some .messageTooLong ∧
    checkFailure .cbcDec { k128 with ivLen := 16, msgLen := 17 } = some .invalidCiphertextLength ∧
    checkFailure .cbcDec { k128 with ivLen := 16, msgLen := 4112 } = some .messageTooLong ∧
    checkFailure .cbcDec { k128 with keyLen := 20, ivLen := 3, msgLen := 17 } = some .invalidKeyLength ∧
    checkFailure .unpad State.reset = some .emptyInput := by decide +kernel
theorem witness_FirstFailingCheckIsReported_passes :
    checkFailure .cbcEnc { k128 with msgLen := 4095, taken := drawsFrom 0 } = none ∧
      State.canDraw { k128 with msgLen := 4095, taken := drawsFrom 0 } .cbcEnc ∧
    checkFailure (.addRoundKey 10) k128 = none ∧ State.canDraw k128 (.addRoundKey 10) := by
  unfold State.canDraw
  decide +kernel

theorem witness_BytewisePrimitives : ∃ (_ _ : Block) (i : Nat), i < 16 := ⟨blk 1, blk 2, 15, by decide⟩
theorem witness_RowRotations : ∃ (_ : Block) (r c : Nat), r < 4 ∧ c < 4 := ⟨blk 1, 3, 3, by decide, by decide⟩
theorem witness_ColumnMixing : ∃ (_ : Block) (c r : Nat), c < 4 ∧ r < 4 := ⟨blk 1, 3, 0, by decide, by decide⟩

/-- The three cases of the recurrence: i = 4 and 6 for Nk = 4, and i = 12 and 59 for Nk = 8. -/
theorem witness_KeyExpansionRecurrence :
    3 < Variant.aes128.nk ∧ Variant.aes128.nk ≤ 4 ∧ 4 % Variant.aes128.nk = 0 ∧
    6 % Variant.aes128.nk ≠ 0 ∧ ¬ (6 < Variant.aes128.nk ∧ 6 % Variant.aes128.nk = 4) ∧
    12 % Variant.aes256.nk ≠ 0 ∧ 6 < Variant.aes256.nk ∧ 12 % Variant.aes256.nk = 4 ∧
    Variant.aes256.nk ≤ 59 ∧ 59 < 4 * (Variant.aes256.nr + 1) := by decide
theorem witness_RoundKeyGrouping : ∃ j : Nat, j < 16 := ⟨15, by decide⟩

theorem witness_KeyExpandCommand :
    Variant.ofKeyLen k128.keyLen = some .aes128 ∧ 10 ≤ Variant.aes128.nr ∧ Variant.aes128.nr < 11 ∧
    Variant.ofKeyLen k256.keyLen = some .aes256 ∧ 14 ≤ Variant.aes256.nr := by decide +kernel

/-- Events (a) and (b), at the last KEY word and for a changed KEYLEN. -/
theorem witness_KeyValidClearedExactly_bus :
    (∃ t, step (writing held128 0x11C 0) = .next t) ∧
      (writing held128 0x11C 0).nextEvent = .busWrite 0x11C 0 ∧ held128.busy = false ∧
      (0x11C : BitVec 20).toNat < 0x120 ∧ held128.keyValid = true ∧
    (∃ t, step (writing held128 0x00C 24) = .next t ∧ t.keyValid = false) ∧
      (24 : Word).extractLsb' 0 8 ≠ held128.keyLen := by
  exact ⟨⟨_, rfl⟩, rfl, rfl, by decide, rfl, ⟨_, rfl, rfl⟩, by decide⟩
/-- Events (c), (d) and (e). -/
theorem witness_KeyValidClearedExactly_commands :
    (∃ t, step (held128.withCommand 0x11) = .next t ∧ t.busy = false ∧ t.keyValid = false) ∧
      (held128.withCommand 0x11).completesNext = true ∧
      decode (held128.withCommand 0x11).cur = .ok .genKey ∧ Variant.ofKeyLen held128.keyLen ≠ none ∧
    (∃ t, step (held128.withCommand 0x70) = .next t ∧ t.keyValid = false) ∧
      decode (held128.withCommand 0x70).cur = .ok .clear ∧
    (∃ t, step { held128 with pending := [.reset] } = .next t ∧ t.keyValid = false) := by
  exact ⟨⟨_, rfl, rfl, rfl⟩, by decide +kernel, by decide +kernel, by decide +kernel, ⟨_, rfl, rfl⟩,
    by decide +kernel, ⟨_, rfl, rfl⟩⟩

theorem witness_ScheduleCacheInvisible :
    held128.ScheduleOk ∧ held128.schedule = some .aes128 ∧
    (usesSchedule (.addRoundKey 10) = true ∧ checkFailure (.addRoundKey 10) held128 = none ∧
      held128.canDraw (.addRoundKey 10)) ∧
    (usesSchedule .cbcEnc = true ∧ checkFailure .cbcEnc { held128 with taken := drawsFrom 0 } = none ∧
      State.canDraw { held128 with taken := drawsFrom 0 } .cbcEnc) := by
  refine ⟨held128_scheduleOk, rfl, ?_⟩
  unfold State.canDraw
  decide +kernel
/-- The other commands and the commands that fail a check or hold. -/
theorem witness_ScheduleCacheInvisible_others :
    (¬ (usesSchedule .pad = true) ∧ ∃ t, exec .pad held128 = .next t) ∧
    (¬ (checkFailure (.addRoundKey 11) held128 = none) ∧ ∃ t, exec (.addRoundKey 11) held128 = .next t) ∧
    (¬ held128.canDraw .cbcEnc ∧ ∃ t, exec .cbcEnc held128 = .next t) := by
  refine ⟨⟨by decide, _, rfl⟩, ⟨by decide +kernel, _, rfl⟩, ?_, _, rfl⟩
  unfold State.canDraw
  decide +kernel

/-- Sixteen bytes drawn, for both drawing commands. -/
theorem witness_GenKeyCommand : Variant.ofKeyLen k128.keyLen = some .aes128 ∧
    Variant.aes128.keyBytes ≤ (State.taken { k128 with taken := drawsFrom 0 }).length := by decide +kernel
theorem witness_GenIvCommand :
    16 ≤ (State.taken { State.reset with taken := drawsFrom 0xA0 }).length := by decide +kernel

/-- A running GEN_IV with no byte drawn, before a source of one byte and before a dry one. -/
theorem witness_EntropyDrawsAndHolds_draw :
    State.nextEvent { State.reset.accept 0x12 with entropy := offering [7], pending := [.draw] } = .draw ∧
      State.entReady { State.reset.accept 0x12 with entropy := offering [7], pending := [.draw] } = true ∧
      (offering [7]).draw = some (7, offering []) ∧
    (offering []).valid = false ∧
    State.entReady { State.reset with pending := [.draw] } = false ∧
    (∃ t, step { State.reset.accept 0x12 with entropy := offering [7], pending := [.draw] } = .next t ∧
      t.taken = [7]) := by
  refine ⟨rfl, by decide +kernel, rfl, rfl, rfl, _, rfl, by decide +kernel⟩
theorem witness_EntropyDrawsAndHolds_events :
    State.pending { State.reset with pending := [.entropy 9] } = .entropy 9 :: [] ∧
    State.pending { State.reset.accept 0x12 with taken := [7], pending := [.reset] } = .reset :: [] :=
  ⟨rfl, rfl⟩
theorem witness_EntropyDrawsAndHolds_next :
    (∃ t, exec .genIv { State.reset with taken := drawsFrom 0 } = .next t ∧ t.taken = []) ∧
      (∃ t, exec .pad State.reset = .next t) := ⟨⟨_, rfl, by decide +kernel⟩, ⟨_, rfl⟩⟩
theorem witness_EntropyDrawsAndHolds_holds :
    checkFailure .cbcEnc { hello with ivLen := 0, taken := (drawsFrom 0).tail } = none ∧
      ¬ State.canDraw { hello with ivLen := 0, taken := (drawsFrom 0).tail } .cbcEnc ∧
    checkFailure .genKey k128 = none ∧ ¬ State.canDraw k128 .genKey := by
  unfold State.canDraw
  decide +kernel

theorem witness_StageCommands :
    (Instr.invMixColumns, invMixColumns, (0x06 : Word)) ∈
      ([(.subBytes, subBytes, 0x01), (.invSubBytes, invSubBytes, 0x02),
      (.shiftRows, shiftRows, 0x03), (.invShiftRows, invShiftRows, 0x04),
      (.mixColumns, mixColumns, 0x05), (.invMixColumns, invMixColumns, 0x06)] :
        List (Instr × (Block → Block) × Word)) ∧
    (State.reset.accept 0x06).StatusOk ∧ (State.reset.accept 0x06).busy = true :=
  ⟨by simp, fun _ => ⟨rfl, rfl⟩, rfl⟩

theorem witness_AddRoundKeyCommand :
    k128.ScheduleOk ∧ held128.ScheduleOk ∧ Variant.ofKeyLen k128.keyLen = some .aes128 ∧
      10 ≤ Variant.aes128.nr ∧ 0 ≤ Variant.aes128.nr :=
  ⟨k128_scheduleOk, held128_scheduleOk, by decide +kernel, by decide, by decide⟩

/-- With a schedule held, and MSGLEN 16: for ENC_BLOCK and DEC_BLOCK. -/
theorem witness_EncBlockCommand_DecBlockCommand :
    State.ScheduleOk { held128 with msgLen := 16 } ∧
      Variant.ofKeyLen held128.keyLen = some .aes128 ∧ State.msgLength { held128 with msgLen := 16 } = 16 :=
  ⟨held128_scheduleOk, by decide +kernel, by decide +kernel⟩

theorem witness_PaddingRoundTrip :
    ((0 : Byte) = 0) ∧ 16 < (0x11 : Byte).toNat ∧
    (1 + 1 < (0x03 : Byte).toNat ∧ (([0x02, 0x03] : List Byte) ++ [0x03]).reverse.getD (1 + 1) 0x03 ≠ 0x03) ∧
    State.msgLength { State.reset with msgLen := 4095 } + 1 ≤ State.msgBytes { State.reset with msgLen := 4095 } := by
  decide +kernel

theorem witness_PadCommand :
    State.msgLength { State.reset with msgLen := 4095 } +
        (16 - State.msgLength { State.reset with msgLen := 4095 } % 16) ≤ State.reset.msgBytes ∧
    State.reset.msgLength + (16 - State.reset.msgLength % 16) ≤ State.reset.msgBytes := by decide +kernel

/-- Valid padding of one byte, at the least length, and an invalid last byte. -/
theorem witness_UnpadCommand :
    (0 < State.msgLength { State.reset with msgLen := 1, msg := written 0 [0x01] } ∧
      State.msgByte { State.reset with msgLen := 1, msg := written 0 [0x01] } 0 = 1) ∧
    (0 < State.msgLength { State.reset with msgLen := 1, msg := written 0 [0x00] } ∧
      State.msgByte { State.reset with msgLen := 1, msg := written 0 [0x00] } 0 = 0) := by decide +kernel

theorem witness_CbcEncCommand_supplied :
    hello.ScheduleOk ∧ Variant.ofKeyLen hello.keyLen = some .aes128 ∧ hello.ivLen = 16 ∧
      hello.msgLength + (16 - hello.msgLength % 16) ≤ hello.msgBytes :=
  ⟨hello_scheduleOk, by decide +kernel, by decide +kernel, by decide +kernel⟩
theorem witness_CbcEncCommand_drawn :
    State.ScheduleOk { hello with ivLen := 0, taken := drawsFrom 0xA0 } ∧
    (drawsFrom 0xA0).length = 16 ∧
      State.taken { hello with ivLen := 0, taken := drawsFrom 0xA0 } = drawsFrom 0xA0 ++ [] ∧
      blk 0xa0a1a2a3a4a5a6a7a8a9aaabacadaeaf = Block.ofBytes (drawsFrom 0xA0) :=
  ⟨hello_scheduleOk, by decide +kernel⟩

theorem witness_CbcDecCommand :
    helloCipher.ScheduleOk ∧ Variant.ofKeyLen helloCipher.keyLen = some .aes128 ∧
      helloCipher.ivLen = 16 ∧ 0 < helloCipher.msgLength ∧ helloCipher.msgLength % 16 = 0 ∧
      helloCipher.msgLength ≤ helloCipher.msgBytes ∧
      unpad (helloCipher.plaintext .aes128) = .ok ([0x48, 0x45, 0x4c, 0x4c, 0x4f], 11) :=
  ⟨helloCipher_scheduleOk, by decide +kernel⟩
/-- L2-CBC-3. -/
theorem witness_CbcDecFailureScrubs :
    State.ScheduleOk { helloCipher with iv := blk 1 } ∧
      Variant.ofKeyLen helloCipher.keyLen = some .aes128 ∧ helloCipher.ivLen = 16 ∧
      0 < helloCipher.msgLength ∧ helloCipher.msgLength % 16 = 0 ∧
      helloCipher.msgLength ≤ helloCipher.msgBytes ∧
      unpad (State.plaintext { helloCipher with iv := blk 1 } .aes128) = .error .invalidPadding :=
  ⟨helloCipher_scheduleOk, by decide +kernel⟩

theorem witness_TraceRecordLayout_encrypt :
    ∃ t, hello.ScheduleOk ∧ Variant.ofKeyLen hello.keyLen = some .aes128 ∧ hello.error = none ∧
      checkFailure .cbcEnc hello = none ∧ hello.canDraw .cbcEnc ∧ hello.traceEn = true ∧
      exec .cbcEnc hello = .next t ∧ t.error = none ∧ t.busy = false ∧ 0 < t.msgLength / 16 := by
  refine ⟨_, hello_scheduleOk, by decide +kernel, rfl, by decide +kernel, ?_, rfl, rfl, ?_, rfl, ?_⟩
  · unfold State.canDraw
    decide +kernel
  · decide +kernel
  · decide +kernel
theorem witness_TraceRecordLayout_decrypt :
    ∃ t, helloCipher.ScheduleOk ∧ checkFailure .cbcDec helloCipher = none ∧ helloCipher.traceEn = true ∧
      exec .cbcDec helloCipher = .next t ∧ t.error = none ∧ t.busy = false ∧
      0 < helloCipher.msgLength / 16 := by
  refine ⟨_, helloCipher_scheduleOk, by decide +kernel, rfl, rfl, ?_, ?_, by decide +kernel⟩ <;>
    decide +kernel

/-- The longest message that round-trips, and the empty one. -/
theorem witness_CbcRoundTrip :
    State.ScheduleOk { hello with msgLen := 4095 } ∧ State.ScheduleOk { hello with msgLen := 0 } ∧
      Variant.ofKeyLen hello.keyLen = some .aes128 ∧ hello.ivLen = 16 ∧
      State.msgLength { hello with msgLen := 4095 } ≤ hello.msgBytes - 1 :=
  ⟨hello_scheduleOk, hello_scheduleOk, by decide +kernel⟩

theorem witness_TraceEnableInvisible :
    ∃ t u, exec .cbcEnc { hello with traceEn := false } = .next t ∧
      exec .cbcEnc { hello with traceEn := true } = .next u := ⟨_, _, rfl, rfl⟩

theorem witness_NoSilentIvReuse :
    (∃ t, checkFailure .cbcEnc { hello with ivLen := 0, taken := drawsFrom 0 } = none ∧
      State.canDraw { hello with ivLen := 0, taken := drawsFrom 0 } .cbcEnc ∧
      exec .cbcEnc { hello with ivLen := 0, taken := drawsFrom 0 } = .next t) ∧
    (∃ t, exec .cbcDec helloCipher = .next t) := by
  refine ⟨⟨_, by decide +kernel, ?_, rfl⟩, ⟨_, rfl⟩⟩
  unfold State.canDraw
  decide +kernel

/-- A running command in an accepted state: for NOP and CLEAR. -/
theorem witness_NopCommand_ClearCommand :
    (State.reset.accept 0x70).StatusOk ∧ (State.reset.accept 0x70).busy = true ∧
    ((0x12C : BitVec 20).toNat % 4 = 0 ∧ 0x100 ≤ (0x12C : BitVec 20).toNat) ∧
    ((0x22FFC : BitVec 20).toNat % 4 = 0 ∧
      (0x22FFC : BitVec 20).toNat < 0x20000 + 3 * State.reset.msgBytes) :=
  ⟨fun _ => ⟨rfl, rfl⟩, rfl, by decide +kernel, by decide +kernel⟩

theorem witness_ConfigurationWrites : State.reset.busy = false ∧ held128.busy = false := ⟨rfl, rfl⟩

/-- Both clauses at the ends of the windows: the last mapped word, the first beyond. -/
theorem witness_BusErrors :
    (0x2EC < 0x2F0 ∧ ¬ (0x2F0 : BitVec 20).toNat < 0x2F0) ∧
    (0x10FFC : BitVec 20).toNat < 0x10000 + State.reset.msgBytes ∧
    ¬ (0x11000 : BitVec 20).toNat < 0x10000 + State.reset.msgBytes ∧
    (0x102 : BitVec 20).toNat % 4 ≠ 0 ∧ (0x01C : BitVec 20).toNat = 0x01C := by decide +kernel

theorem witness_EventEffects :
    ({ hello with pending := [.busRead 0x10000, .complete] } : State).pending =
      .busRead 0x10000 :: [.complete] ∧
    (writing hello 0x11C 7).pending = .busWrite 0x11C 7 :: [] ∧
    (hello.busy = false ∧ hello.pending = []) ∧
    (State.pending { hello with pending := [.draw] } = .draw :: [] ∧
      State.pending { hello with pending := [.complete] } = .complete :: []) :=
  ⟨rfl, rfl, ⟨rfl, rfl⟩, rfl, rfl⟩

theorem witness_BusyWindow :
    (hello.accept 0x30).busy = true ∧ (0x13C : BitVec 20).toNat % 4 = 0 ∧
    (0x100 ≤ (0x13C : BitVec 20).toNat ∧ (0x13C : BitVec 20).toNat < 0x140) ∧
    (0x01C : BitVec 20).toNat < 0x20 ∧ (0x010 : BitVec 20).toNat = 0x010 := by decide +kernel

/-- The last word of each window. -/
theorem witness_WindowWriteReadBack :
    hello.busy = false ∧ (0x11C : BitVec 20).toNat % 4 = 0 ∧ 0x100 ≤ (0x11C : BitVec 20).toNat ∧
    (0x11C : BitVec 20).toNat < 0x120 ∧ (0x12C : BitVec 20).toNat < 0x130 ∧
    (0x13C : BitVec 20).toNat < 0x140 ∧ (0x10FFC : BitVec 20).toNat % 4 = 0 ∧
    (0x10FFC : BitVec 20).toNat < 0x10000 + hello.msgBytes ∧
    ((0x010 : BitVec 20) ≠ 0x11C ∧ (0x010 : BitVec 20) ≠ 0x008) := by decide +kernel

/-- The last word of each window; shown and hidden round keys (RK[10], RK[11]) and trace records (0, 1). -/
theorem witness_WindowReads :
    held128.busy = false ∧ (28 % 4 = 0 ∧ 28 < 32) ∧ (12 % 4 = 0 ∧ 12 < 16) ∧
    (4092 % 4 = 0 ∧ 4092 < held128.msgBytes) ∧ (172 % 4 = 0 ∧ 172 < 240 ∧ 172 / 16 ≤ held128.nr) ∧
    (176 < 240 ∧ ¬ 176 / 16 ≤ held128.nr) ∧ held128.keyValid = true ∧
    (44 / 48 < (1 : BitVec 16).toNat ∧ ¬ 48 / 48 < (1 : BitVec 16).toNat ∧
      12284 < 3 * State.reset.msgBytes) := by decide +kernel

theorem witness_StickyBits_werr :
    (∃ t, step (writing { State.reset with werr := true } 0x008 0x8) = .next t ∧ t.werr = false) ∧
    (∃ t, step { State.reset with werr := true, pending := [.reset] } = .next t ∧ t.werr = false) ∧
    (∃ t, step (writing (State.reset.accept 0x30) 0x010 7) = .next t ∧ t.werr = true) :=
  ⟨⟨_, rfl, rfl⟩, ⟨_, rfl, rfl⟩, ⟨_, rfl, rfl⟩⟩
theorem witness_StickyBits_done :
    (∃ t, step (writing { State.reset with done := true } 0x004 0x30) = .next t ∧ t.done = false) ∧
    (∃ t, step (writing { State.reset with done := true } 0x008 0x2) = .next t ∧ t.done = false) ∧
    (∃ t, step (State.reset.withCommand 0x00) = .next t ∧ t.done = true ∧ t.busy = false) :=
  ⟨⟨_, rfl, rfl⟩, ⟨_, rfl, rfl⟩, ⟨_, rfl, rfl, rfl⟩⟩

theorem witness_InterruptLevel :
    (∃ t, step ({ State.reset with doneIe := true }.withCommand 0x00) = .next t ∧ t.busy = false ∧
      t.irq = true) ∧
    ({ State.reset with doneIe := true }.withCommand 0x00).completesNext = true ∧
    (∃ t, step (writing { State.reset with done := true } 0x014 1) = .next t ∧ t.irq = true) ∧
    (∃ t, step (writing { State.reset with done := true, doneIe := true } 0x004 0) = .next t) ∧
    (∃ t, step (writing { State.reset with done := true, doneIe := true } 0x008 2) = .next t) :=
  ⟨⟨_, rfl, rfl, rfl⟩, by decide +kernel, ⟨_, rfl, rfl⟩, ⟨_, rfl⟩, ⟨_, rfl⟩⟩

/-- Each of the four registers changes in some step. -/
theorem witness_RegisterWriters_bus :
    (∃ t, step (writing State.reset 0x11C 1) = .next t ∧ t.key ≠ State.reset.key) ∧
    (∃ t, step (writing State.reset 0x12C 1) = .next t ∧ t.iv ≠ State.reset.iv) ∧
    (∃ t, step (writing State.reset 0x13C 1) = .next t ∧ t.stateReg ≠ State.reset.stateReg) ∧
    ((writing State.reset 0x13C 1).nextEvent ≠ .reset) := by
  refine ⟨⟨_, rfl, ?_⟩, ⟨_, rfl, ?_⟩, ⟨_, rfl, ?_⟩, ?_⟩
  · decide +kernel
  · decide +kernel
  · decide +kernel
  · intro h
    cases h
theorem witness_RegisterWriters_counts :
    ∃ t, step (hello.withCommand 0x30) = .next t ∧ t.blocks ≠ hello.blocks := by
  refine ⟨_, rfl, ?_⟩
  decide +kernel

theorem witness_ResetValues :
    ({ hello with busy := true, cur := 0x30, pending := [.reset, .complete] } : State).pending =
      .reset :: [.complete] := rfl

/-- A step from a state with a good held schedule: for the invariants of the whole machine. -/
theorem witness_ScheduleInvariantKept :
    held128.ScheduleOk ∧ ∃ t, step (held128.withCommand 0x107) = .next t := ⟨held128_scheduleOk, ⟨_, rfl⟩⟩
theorem witness_CommandInvariantsKept :
    ((State.reset.withCommand 0x40).StatusOk ∧ ∃ t, step (State.reset.withCommand 0x40) = .next t) ∧
    (State.EntropyOk { State.reset.accept 0x12 with taken := (drawsFrom 0).tail } ∧
      ∃ t, step { State.reset.accept 0x12 with taken := (drawsFrom 0).tail } = .next t ∧
        t.taken.length = 16) := by
  refine ⟨⟨fun _ => ⟨rfl, rfl⟩, ⟨_, rfl⟩⟩, ?_, _, rfl, by decide +kernel⟩
  unfold State.EntropyOk
  decide +kernel
theorem witness_BuffersStayInRange :
    State.BuffersOk (hello.withCommand 0x30) ∧ ∃ t, step (hello.withCommand 0x30) = .next t := by
  refine ⟨?_, ⟨_, rfl⟩⟩
  unfold State.BuffersOk
  decide +kernel
theorem witness_CountedRecordsStayWritten :
    State.TraceOk (hello.withCommand 0x30) ∧ ∃ t, step (hello.withCommand 0x30) = .next t := by
  refine ⟨⟨by decide +kernel, .inl rfl, ?_⟩, ⟨_, rfl⟩⟩
  intro o ho
  exact absurd ho (Nat.not_lt_zero o)
theorem witness_ReservedErrorCodesUnused :
    State.ErrorOk (State.reset.withCommand 0x41) ∧ ∃ t, step (State.reset.withCommand 0x41) = .next t := by
  refine ⟨?_, ⟨_, rfl⟩⟩
  unfold State.ErrorOk
  decide +kernel

end Sys2Proof.Tests
end

section
/-! Proofs about the bus: which addresses `locate` finds, the rule of each case of a read and of a write
(20_memory.md R96–R99), and the statements BusErrors and BusyWindow. -/

namespace Sys2Proof.Machine

open Sys2Proof

/-! ### The address map -/

/-- MSG_BYTES is at most 32768 (00_scope.md R5). -/
theorem State.msgBytes_le (s : State) : s.msgBytes ≤ 0x8000 := by
  have hunits := s.msgUnits.isLt
  simp only [State.msgBytes]
  omega

/-- The address lies in the region (20_memory.md R93). -/
def Region.Covers (r : Region) (a : BitVec 20) : Prop := r.base ≤ a.toNat ∧ a.toNat < r.base + r.size

section
variable {msgBytes : Nat} {a : BitVec 20} {w : Window} {o : Nat}

theorem covers_of_locate (h : locate msgBytes a = some (w, o)) :
    a.toNat % 4 = 0 ∧ ∃ r ∈ addressMap msgBytes, r.Covers a ∧ r.window = w ∧ a.toNat - r.base = o := by
  unfold locate at h
  split at h
  case isTrue => cases h
  case isFalse haligned =>
    split at h
    case h_1 r hfind =>
      have hcovers : r.Covers a := by simpa [Region.Covers] using List.find?_some hfind
      cases h
      exact ⟨by omega, r, List.mem_of_find?_eq_some hfind, hcovers, rfl, rfl⟩
    case h_2 => cases h

theorem locate_eq_none_iff :
    locate msgBytes a = none ↔ a.toNat % 4 ≠ 0 ∨ ∀ r ∈ addressMap msgBytes, ¬ r.Covers a := by
  unfold locate
  split
  case isTrue haligned => simp [haligned]
  case isFalse haligned =>
    split
    case h_1 r hfind =>
      have hcovers : r.Covers a := by simpa [Region.Covers] using List.find?_some hfind
      simpa [haligned] using ⟨r, List.mem_of_find?_eq_some hfind, hcovers⟩
    case h_2 hfind => simpa [haligned, Region.Covers] using hfind

/-- The mapped addresses as numbers (20_memory.md R93, R109). -/
theorem exists_locate_iff :
    (∃ w o, locate msgBytes a = some (w, o)) ↔ a.toNat % 4 = 0 ∧
      (a.toNat < 0x20 ∨ 0x100 ≤ a.toNat ∧ a.toNat < 0x140 ∨ 0x200 ≤ a.toNat ∧ a.toNat < 0x2F0 ∨
        0x10000 ≤ a.toNat ∧ a.toNat < 0x10000 + msgBytes ∨
        0x20000 ≤ a.toNat ∧ a.toNat < 0x20000 + 3 * msgBytes) := by
  have hsome : (∃ w o, locate msgBytes a = some (w, o)) ↔ locate msgBytes a ≠ none := by
    simp [Option.ne_none_iff_exists', Prod.exists]
  rw [hsome, Ne, locate_eq_none_iff]
  simp only [addressMap, Region.Covers, List.forall_mem_cons, List.not_mem_nil,
    false_implies, implies_true, and_true]
  omega

/-- The data windows lie above the registers (20_memory.md R93, R98). -/
theorem isData_iff_of_locate (h : locate msgBytes a = some (w, o)) :
    w.isData = true ↔ 0x100 ≤ a.toNat := by
  obtain ⟨-, r, hr, hcovers, rfl, -⟩ := covers_of_locate h
  revert r
  simp only [addressMap, Region.Covers, Window.isData, List.forall_mem_cons, List.not_mem_nil,
    false_implies, implies_true, and_true, true_iff, false_iff, Bool.false_eq_true]
  omega

/-- The addresses of the windows the host may not write (20_memory.md R96). -/
theorem not_writable_iff_of_locate (hsize : msgBytes ≤ 0x8000)
    (h : locate msgBytes a = some (w, o)) :
    w.writable = false ↔ a.toNat = 0x000 ∨ a.toNat = 0x018 ∨ a.toNat = 0x01C ∨
      0x200 ≤ a.toNat ∧ a.toNat < 0x2F0 ∨ 0x20000 ≤ a.toNat := by
  obtain ⟨haligned, r, hr, hcovers, rfl, -⟩ := covers_of_locate h
  revert r
  simp only [addressMap, Region.Covers, Window.writable, List.forall_mem_cons, List.not_mem_nil,
    false_implies, implies_true, and_true, true_iff, false_iff, Bool.true_eq_false]
  omega

/-- The addresses of the registers a busy core accepts a write to (20_memory.md R99). -/
theorem writableWhileBusy_iff_of_locate (h : locate msgBytes a = some (w, o)) :
    w.writableWhileBusy = true ↔ a.toNat = 0x008 ∨ a.toNat = 0x014 := by
  obtain ⟨haligned, r, hr, hcovers, rfl, -⟩ := covers_of_locate h
  revert r
  simp only [addressMap, Region.Covers, Window.writableWhileBusy, List.forall_mem_cons, List.not_mem_nil,
    false_implies, implies_true, and_true, true_iff, false_iff, Bool.false_eq_true]
  omega

end

@[simp] theorem locate_id (msgBytes : Nat) : locate msgBytes 0x000 = some (.id, 0) := rfl
@[simp] theorem locate_cmd (msgBytes : Nat) : locate msgBytes 0x004 = some (.cmd, 0) := rfl
@[simp] theorem locate_status (msgBytes : Nat) : locate msgBytes 0x008 = some (.status, 0) := rfl
@[simp] theorem locate_cfg (msgBytes : Nat) : locate msgBytes 0x00C = some (.cfg, 0) := rfl
@[simp] theorem locate_msgLen (msgBytes : Nat) : locate msgBytes 0x010 = some (.msgLen, 0) := rfl
@[simp] theorem locate_irqEn (msgBytes : Nat) : locate msgBytes 0x014 = some (.irqEn, 0) := rfl
@[simp] theorem locate_blkCnt (msgBytes : Nat) : locate msgBytes 0x018 = some (.blkCnt, 0) := rfl
@[simp] theorem locate_param (msgBytes : Nat) : locate msgBytes 0x01C = some (.param, 0) := rfl

/-! ### The cases of a read and of a write -/

section
variable {s : State} {a : BitVec 20} {w : Window} {o : Nat} (d : Word)

theorem State.busRead_of_unmapped (h : locate s.msgBytes a = none) : s.busRead a = ⟨0, true⟩ := by
  simp [State.busRead, h]

theorem State.busRead_of_mapped (h : locate s.msgBytes a = some (w, o)) :
    s.busRead a = ⟨if s.busy && w.isData then 0 else s.readWindow w o, false⟩ := by
  simp only [State.busRead, h]
  split <;> rfl

theorem State.busRead_register (h : locate s.msgBytes a = some (w, o)) (hw : w.isData = false) :
    s.busRead a = ⟨s.readWindow w o, false⟩ := by
  simp [State.busRead_of_mapped h, hw]

theorem State.busWrite_of_unmapped (h : locate s.msgBytes a = none) : s.busWrite a d = (s, true) := by
  simp [State.busWrite, h]

theorem State.busWrite_readOnly (h : locate s.msgBytes a = some (w, o)) (hw : w.writable = false) :
    s.busWrite a d = (s, true) := by
  simp [State.busWrite, h, hw]

theorem State.busWrite_dropped (h : locate s.msgBytes a = some (w, o)) (hw : w.writable = true)
    (hbusy : s.busy = true) (hdrop : w.writableWhileBusy = false) :
    s.busWrite a d = ({ s with werr := true }, false) := by
  simp [State.busWrite, h, hw, hbusy, hdrop]

theorem State.busWrite_accepted (h : locate s.msgBytes a = some (w, o)) (hw : w.writable = true)
    (haccept : s.busy = false ∨ w.writableWhileBusy = true) :
    s.busWrite a d = (s.writeWindow w o d, false) := by
  rcases haccept with hidle | hwhile
  · simp [State.busWrite, h, hw, hidle]
  · simp [State.busWrite, h, hw, hwhile]

/-- A write to a writable window answers no error, whether it is dropped or takes effect. -/
theorem State.busWrite_no_error (h : locate s.msgBytes a = some (w, o)) (hw : w.writable = true) :
    (s.busWrite a d).2 = false := by
  by_cases haccept : s.busy = false ∨ w.writableWhileBusy = true
  · rw [State.busWrite_accepted d h hw haccept]
  · simp only [not_or, Bool.not_eq_false, Bool.not_eq_true] at haccept
    rw [State.busWrite_dropped d h hw haccept.1 haccept.2]

end

/-! ### The statements -/

/-- Settles O46: `locate` finds exactly the mapped addresses, and the window it finds there says whether a
write is an error. -/
theorem busErrors : Obligations.BusErrors := by
  intro s a d mapped readOnly
  have hmapped : (∃ w o, locate s.msgBytes a = some (w, o)) ↔ mapped := exists_locate_iff
  cases hloc : locate s.msgBytes a with
  | none =>
    have hun : ¬ mapped := by simpa [hloc] using hmapped
    exact ⟨fun _ => State.busRead_of_unmapped hloc, fun h => absurd h hun,
      fun _ => State.busWrite_of_unmapped d hloc, fun h => absurd h hun⟩
  | some found =>
    obtain ⟨w, o⟩ := found
    have hm : mapped := hmapped.mp ⟨w, o, hloc⟩
    have hreadOnly : w.writable = false ↔ readOnly := not_writable_iff_of_locate s.msgBytes_le hloc
    refine ⟨fun hun => absurd hm hun, fun _ => ?_, fun h => ?_, fun _ hwritable => ?_⟩
    · rw [State.busRead_of_mapped hloc]
    · exact State.busWrite_readOnly d hloc (hreadOnly.mpr (h.resolve_left (not_not.mpr hm)))
    · exact State.busWrite_no_error d hloc (by simpa using mt hreadOnly.mp hwritable)

/-- The eight registers in the order of the address map, as a read shows them in any state
(20_memory.md R93, R98). -/
theorem State.busRead_registers (s : State) (a : BitVec 20) (haligned : a.toNat % 4 = 0)
    (hlow : a.toNat < 0x20) :
    s.busRead a =
      ⟨[0x41455343, s.cur, s.statusWord, s.cfgWord, s.msgLenWord, s.irqEnWord, s.blkCntWord,
        BitVec.ofNat 32 s.msgBytes].getD (a.toNat / 4) 0, false⟩ := by
  have hregister : a = 0x000 ∨ a = 0x004 ∨ a = 0x008 ∨ a = 0x00C ∨ a = 0x010 ∨ a = 0x014 ∨
      a = 0x018 ∨ a = 0x01C := by
    bv_omega
  rcases hregister with rfl | rfl | rfl | rfl | rfl | rfl | rfl | rfl
  · exact State.busRead_register (locate_id _) rfl
  · exact State.busRead_register (locate_cmd _) rfl
  · exact State.busRead_register (locate_status _) rfl
  · exact State.busRead_register (locate_cfg _) rfl
  · exact State.busRead_register (locate_msgLen _) rfl
  · exact State.busRead_register (locate_irqEn _) rfl
  · exact State.busRead_register (locate_blkCnt _) rfl
  · exact State.busRead_register (locate_param _) rfl

/-- Settles O48: the window an address lies in decides whether a busy core hides it, shows it, lets the
host write it or drops the write. -/
theorem busyWindow : Obligations.BusyWindow := by
  intro s a d hbusy haligned
  refine ⟨fun hdata => ?_, s.busRead_registers a haligned, fun haccept => ?_, fun hdrop => ?_⟩
  · obtain ⟨w, o, hloc⟩ := exists_locate_iff.mpr ⟨haligned, .inr hdata⟩
    have hw : w.isData = true := (isData_iff_of_locate hloc).mpr (by omega)
    simp [State.busRead_of_mapped hloc, hbusy, hw]
  · rcases haccept with rfl | rfl
    · rw [State.busWrite_accepted d (locate_status _) rfl (.inr rfl),
        State.busWrite_accepted d (locate_status _) rfl (.inr rfl)]
      rw [← hbusy]
      rfl
    · rw [State.busWrite_accepted d (locate_irqEn _) rfl (.inr rfl),
        State.busWrite_accepted d (locate_irqEn _) rfl (.inr rfl)]
      rw [← hbusy]
      rfl
  · have hsize := s.msgBytes_le
    obtain ⟨w, o, hloc⟩ : ∃ w o, locate s.msgBytes a = some (w, o) :=
      exists_locate_iff.mpr ⟨haligned, by omega⟩
    have hw : ¬ w.writable = false := by
      rw [not_writable_iff_of_locate hsize hloc]
      omega
    have hwhile : ¬ w.writableWhileBusy = true := by
      rw [writableWhileBusy_iff_of_locate hloc]
      omega
    exact State.busWrite_dropped d hloc (by simpa using hw) hbusy (by simpa using hwhile)

end Sys2Proof.Machine
end

section
/-! Proofs about the decoder: the opcodes it knows, and the words it rejects (30_encoding.md R130–R136). -/

namespace Sys2Proof

/-- "Exact match against the OP column" (30_encoding.md R131, R134): each of the eighteen arms answers a
command of a listed opcode, and the default arm is reached by no listed opcode. -/
theorem exists_decodeOp_error_iff (op : BitVec 8) (rk : Nat) : (∃ e, decodeOp op rk = .error e) ↔
    op ∉ ([0x00, 0x01, 0x02, 0x03, 0x04, 0x05, 0x06, 0x07, 0x10, 0x11, 0x12] ++
      [0x20, 0x21, 0x30, 0x31, 0x40, 0x41, 0x70] : List (BitVec 8)) := by
  unfold decodeOp
  split
  case h_19 => simp_all
  all_goals simp

/-- The three reasons of 30_encoding.md R135, the last one left to the opcode's own decoder. -/
theorem exists_decode_error_iff (w : Word) : (∃ e, decode w = .error e) ↔
    reservedField w ≠ 0 ∨ (rkField w ≠ 0 ∧ opField w ≠ 0x07) ∨
      ∃ e, decodeOp (opField w) (rkField w).toNat = .error e := by
  unfold decode
  by_cases hreserved : reservedField w ≠ 0#20
  · simp [hreserved]
  · by_cases hrk : rkField w ≠ 0#4 ∧ opField w ≠ 0x07#8
    · simp [hreserved, hrk]
    · rw [if_neg hreserved, if_neg hrk]
      exact ⟨fun h => .inr (.inr h), fun h => (h.resolve_left hreserved).resolve_left hrk⟩

/-- Settles O4: a word passes the two field checks or is rejected by them; past them, its opcode alone
decides. -/
theorem illegalWordsSelectNoCommand : Obligations.IllegalWordsSelectNoCommand := by
  intro w
  rw [exists_decode_error_iff, exists_decodeOp_error_iff]
  rfl

end Sys2Proof
end

section
/-! Proofs about the key schedule: the words an expansion appends and what KEY_EXPAND writes
(41_key_schedule.md R203, R205, R208). -/

namespace Sys2Proof

open Sys2Proof.Machine

/-! ### The words of a schedule -/

theorem Variant.nk_pos (v : Variant) : 0 < v.nk := by cases v <;> decide

theorem Variant.nk_le (v : Variant) : v.nk ≤ 8 := by cases v <;> decide

theorem Variant.nk_le_words (v : Variant) : v.nk ≤ 4 * (v.nr + 1) := by cases v <;> decide

theorem wordAt_append_left (w u : List Quad) {i : Nat} (h : i < w.length) :
    wordAt (w ++ u) i = wordAt w i := by
  simp [wordAt, List.getElem?_append_left h]

@[simp] theorem wordAt_append_singleton (w : List Quad) (q : Quad) :
    wordAt (w ++ [q]) w.length = q := by
  simp [wordAt]

theorem take_nk_length (v : Variant) (key : Vector Quad 8) :
    (key.toList.take v.nk).length = v.nk := by
  simp [v.nk_le]

@[simp] theorem expandKey_length (v : Variant) (key : Vector Quad 8) :
    (expandKey v key).length = 4 * (v.nr + 1) := by
  have hwords := v.nk_le_words
  rw [expandKey, extendWords_length, take_nk_length]
  omega

/-- The first Nk words are the key's (41_key_schedule.md R203, first loop). -/
theorem wordAt_expandKey_of_lt (v : Variant) (key : Vector Quad 8) {i : Nat} (h : i < v.nk)
    (h8 : i < 8) : wordAt (expandKey v key) i = key[i] := by
  rw [expandKey, wordAt_extendWords _ _ _ _ (by rwa [take_nk_length])]
  simp [wordAt, h, h8]

/-- Every appended word follows from the extended list itself: the words it was computed from when it was
appended are still there at the end. -/
theorem wordAt_extendWords_of_ge (nk n : Nat) (w : List Quad) {i : Nat} (hpos : 0 < nk)
    (hnk : nk ≤ w.length) (hlo : w.length ≤ i) (hhi : i < w.length + n) :
    wordAt (extendWords nk n w) i =
      (scheduleTransform nk i (wordAt (extendWords nk n w) (i - 1))).xor
        (wordAt (extendWords nk n w) (i - nk)) := by
  induction n generalizing w with
  | zero => omega
  | succ n ih =>
    have hlen : (w ++ [nextWord nk w]).length = w.length + 1 := by simp
    rcases hlo.eq_or_lt with rfl | hlater
    · have hkept : ∀ j, j < w.length → wordAt (extendWords nk (n + 1) w) j = wordAt w j :=
        wordAt_extendWords nk (n + 1) w
      rw [hkept (w.length - 1) (by omega), hkept (w.length - nk) (by omega), extendWords,
        wordAt_extendWords _ _ _ _ (by omega), wordAt_append_singleton, nextWord]
    · exact ih (w ++ [nextWord nk w]) (by omega) (by omega) (by omega)

/-- The recurrence of 41_key_schedule.md R203, its three cases in `scheduleTransform`. -/
theorem wordAt_expandKey_of_ge (v : Variant) (key : Vector Quad 8) {i : Nat} (hlo : v.nk ≤ i)
    (hhi : i < 4 * (v.nr + 1)) :
    wordAt (expandKey v key) i =
      (scheduleTransform v.nk i (wordAt (expandKey v key) (i - 1))).xor
        (wordAt (expandKey v key) (i - v.nk)) := by
  have hlen := take_nk_length v key
  exact wordAt_extendWords_of_ge v.nk _ _ v.nk_pos hlen.ge (by omega) (by omega)

/-- Settles O19: the recurrence holds of the extended list, and the three cases are those of
`scheduleTransform`. -/
theorem keyExpansionRecurrence : Obligations.KeyExpansionRecurrence := by
  intro v key
  refine ⟨expandKey_length v key, fun i h h8 => wordAt_expandKey_of_lt v key h h8,
    fun i hlo hhi => ?_⟩
  have hrec := wordAt_expandKey_of_ge v key hlo hhi
  refine ⟨fun hrot => ?_, fun hrot hsub => ?_, fun hrot hsub => ?_⟩
  · rw [hrec, scheduleTransform, if_pos hrot]
  · rw [hrec, scheduleTransform, if_neg hrot, if_pos hsub]
  · rw [hrec, scheduleTransform, if_neg hrot, if_neg hsub]

/-! ### KEY_EXPAND -/

theorem exec_keyExpand {s : State} {v : Variant} (h : Variant.ofKeyLen s.keyLen = some v) :
    exec .keyExpand s = .next (s.expand v).complete :=
  State.checkKey_of_some h _

/-- Settles O21: KEY_EXPAND is `Expand()` and the completion, and `Expand()` writes only the round-key RAM
and the schedule's validity. -/
theorem keyExpandCommand : Obligations.KeyExpandCommand := by
  intro s v hv
  refine ⟨(s.expand v).complete, exec_keyExpand hv, fun r hr => ?_, fun r hr h15 => ?_, rfl, rfl, rfl⟩
  · have h15 : r < 15 := lt_of_le_of_lt hr (Variant.nr_lt v)
    simp [roundKey_scheduleRam _ _ _ _ h15, hr]
  · simp [roundKey_scheduleRam _ _ _ _ h15, Nat.not_le.mpr hr]

end Sys2Proof
end

section
/-! Proofs about KEY_VALID: what the shared operations and each command do to the held schedule, which
event clears it, and the statement KeyValidClearedExactly (41_key_schedule.md R207). -/

namespace Sys2Proof.Machine

open Sys2Proof

/-! ### Operations that leave the schedule alone -/

section
variable (s : State)

@[simp] theorem State.applyStage_schedule (f : Block → Block) :
    (s.applyStage f).schedule = s.schedule := rfl

@[simp] theorem State.transformBlock_schedule (f : State → Block → Block) :
    (s.transformBlock f).schedule = s.schedule := rfl

@[simp] theorem State.traceIfEnabled_schedule (k : Nat) (a b c : Block) :
    (s.traceIfEnabled k a b c).schedule = s.schedule := by
  unfold State.traceIfEnabled
  split <;> rfl

@[simp] theorem cbcEncBlock_schedule (k : Nat) : (cbcEncBlock k s).schedule = s.schedule := by
  simp [cbcEncBlock]

@[simp] theorem cbcDecBlock_schedule (k : Nat) : (cbcDecBlock k s).schedule = s.schedule := by
  simp [cbcDecBlock]

theorem forBlocks_schedule {body : Nat → State → State}
    (hbody : ∀ k t, (body k t).schedule = t.schedule) (n k : Nat) :
    (forBlocks body n k s).schedule = s.schedule :=
  forBlocks_induct (P := fun _ t => t.schedule = s.schedule) n k s rfl
    fun j t _ _ ht => (hbody j t).trans ht

@[simp] theorem State.cbcEncrypt_schedule : s.cbcEncrypt.schedule = s.schedule := by
  simp [State.cbcEncrypt, forBlocks_schedule _ fun k t => cbcEncBlock_schedule t k]

@[simp] theorem State.decryptFail_schedule (length : Nat) :
    (s.decryptFail length).schedule = s.schedule := by
  simp only [State.decryptFail, State.raise_schedule]
  split <;> rfl

@[simp] theorem State.cbcDecrypt_schedule : s.cbcDecrypt.schedule = s.schedule := by
  have hchain := forBlocks_schedule s.startChain (fun k t => cbcDecBlock_schedule t k)
    (s.msgLength / 16) 0
  simp only [State.cbcDecrypt]
  split <;> simpa using hchain

theorem State.drawIv_schedule {s t : State} (h : s.drawIv = some t) : t.schedule = s.schedule := by
  rcases Nat.lt_or_ge s.taken.length 16 with hshort | hready
  · simp [State.drawIv, State.draws_of_lt hshort] at h
  · simp only [State.drawIv, State.draws_of_le hready, Option.some.injEq] at h
    rw [← h]

theorem State.selectIv_schedule {s t : State} (h : s.selectIv = some t) : t.schedule = s.schedule := by
  unfold State.selectIv at h
  split at h
  case isTrue => exact State.drawIv_schedule h
  case isFalse => rw [Option.some.inj h]

@[simp] theorem State.drawEvent_schedule : s.drawEvent.schedule = s.schedule := by
  obtain h | ⟨b, e, -, -, h⟩ := s.drawEvent_cases <;> rw [h]

/-- Whatever schedule was held, one is held after `EnsureKey()`. -/
@[simp] theorem State.ensureKey_keyValid (v : Variant) : (s.ensureKey v).keyValid = true := by
  unfold State.ensureKey
  split
  case h_1 held => simp [State.keyValid, held]
  case h_2 => rfl

end

section
variable {s t : State}

theorem State.keyValid_of_schedule (h : t.schedule = s.schedule) (hs : s.keyValid = true) :
    t.keyValid = true := by
  rwa [State.keyValid, h]

theorem State.cleared_of_schedule (h : t.schedule = none) : t.keyValid = false ∧ t.nr = 0 := by
  simp [State.keyValid, State.nr, h]

/-! ### Commands -/

/-- GEN_KEY raises, holds, or replaces the key and drops the schedule (41_key_schedule.md R209). -/
theorem exec_genKey_cases (h : exec .genKey s = .next t) :
    (Variant.ofKeyLen s.keyLen = none ∧ t = s.raise .invalidKeyLength) ∨
      ∃ v, Variant.ofKeyLen s.keyLen = some v ∧
        (s.taken.length < v.keyBytes ∧ t = s ∨
          v.keyBytes ≤ s.taken.length ∧
            t = { s with
              key := keyOfBytes (s.taken.take v.keyBytes ++ List.replicate (32 - v.keyBytes) 0)
              schedule := none, taken := s.taken.drop v.keyBytes, busy := false, done := true }) := by
  simp only [exec, execGenKey] at h
  cases hv : Variant.ofKeyLen s.keyLen with
  | none =>
    rw [State.checkKey_of_none hv] at h
    exact .inl ⟨rfl, by cases h; rfl⟩
  | some v =>
    rw [State.checkKey_of_some hv] at h
    refine .inr ⟨v, rfl, ?_⟩
    rcases Nat.lt_or_ge s.taken.length v.keyBytes with hshort | hready
    · rw [State.draws_of_lt hshort] at h
      exact .inl ⟨hshort, by cases h; rfl⟩
    · rw [State.draws_of_le hready] at h
      exact .inr ⟨hready, by cases h; rfl⟩

/-- A command that begins with `CheckKey()` keeps KEY_VALID if the rest of it does. -/
theorem State.checkKey_keeps_keyValid {rest : Variant → Result} (hs : s.keyValid = true)
    (hrest : ∀ v, rest v = .next t → t.keyValid = true) (h : s.checkKey rest = .next t) :
    t.keyValid = true := by
  obtain ⟨-, hraise⟩ | ⟨v, -, hpass⟩ := s.checkKey_cases rest
  · cases hraise.symm.trans h
    exact hs
  · exact hrest v (hpass.symm.trans h)

/-- ENC_BLOCK and DEC_BLOCK keep KEY_VALID. -/
theorem State.singleBlock_keeps_keyValid {f : State → Block → Block} (hs : s.keyValid = true)
    (h : s.singleBlock f = .next t) : t.keyValid = true := by
  refine State.checkKey_keeps_keyValid hs (fun v hv => ?_) h
  split at hv <;> cases hv
  · exact hs
  · exact State.keyValid_of_schedule (State.transformBlock_schedule _ _) (s.ensureKey_keyValid v)

/-- "Nothing else clears KEY_VALID" (41_key_schedule.md R207), for a command. -/
theorem exec_keeps_keyValid {i : Instr} (hgen : i ≠ .genKey) (hclear : i ≠ .clear)
    (hs : s.keyValid = true) (h : exec i s = .next t) : t.keyValid = true := by
  cases i with
  | genKey => exact absurd rfl hgen
  | clear => exact absurd rfl hclear
  | nop | subBytes | invSubBytes | shiftRows | invShiftRows | mixColumns | invMixColumns =>
    cases h
    exact hs
  | addRoundKey rk =>
    refine State.checkKey_keeps_keyValid hs (fun v hv => ?_) h
    split at hv <;> cases hv
    · exact hs
    · exact State.keyValid_of_schedule (State.applyStage_schedule _ _) (s.ensureKey_keyValid v)
  | keyExpand =>
    refine State.checkKey_keeps_keyValid hs (fun v hv => ?_) h
    cases hv
    rfl
  | genIv =>
    simp only [exec, execGenIv] at h
    split at h <;> cases h
    case h_1 => exact hs
    case h_2 s1 hdraw =>
      have hs1 : s1.keyValid = true := State.keyValid_of_schedule (State.drawIv_schedule hdraw) hs
      exact hs1
  | encBlock | decBlock => exact State.singleBlock_keeps_keyValid hs h
  | cbcEnc =>
    refine State.checkKey_keeps_keyValid hs (fun v hv => ?_) h
    iterate 2
      split at hv
      · cases hv; exact hs
    split at hv <;> cases hv
    case h_1 => exact hs
    case h_2 s1 hselect =>
      have hs1 := State.keyValid_of_schedule (State.selectIv_schedule hselect) (s.ensureKey_keyValid v)
      exact State.keyValid_of_schedule s1.cbcEncrypt_schedule hs1
  | cbcDec =>
    refine State.checkKey_keeps_keyValid hs (fun v hv => ?_) h
    iterate 3
      split at hv
      · cases hv; exact hs
    cases hv
    exact State.keyValid_of_schedule (State.cbcDecrypt_schedule _) (s.ensureKey_keyValid v)
  | pad =>
    simp only [exec, execPad] at h
    split at h <;> cases h <;> exact hs
  | unpad =>
    simp only [exec, execUnpad] at h
    iterate 2
      split at h
      · cases h; exact hs
    split at h <;> cases h <;> exact hs

/-- Events (c) and (d) of 41_key_schedule.md R207: the command takes s to t as an errorless GEN_KEY that ends
(it does not hold), or is CLEAR. -/
def InvalidatingCommand (i : Instr) (s t : State) : Prop :=
  i = .genKey ∧ Variant.ofKeyLen s.keyLen ≠ none ∧ t.busy = false ∨ i = .clear

theorem schedule_of_invalidatingCommand {i : Instr} (hbusy : s.busy = true)
    (h : exec i s = .next t) (hi : InvalidatingCommand i s t) : t.schedule = none := by
  rcases hi with ⟨rfl, hlegal, hend⟩ | rfl
  · obtain ⟨hnone, -⟩ | ⟨v, -, ⟨-, rfl⟩ | ⟨-, rfl⟩⟩ := exec_genKey_cases h
    · exact absurd hnone hlegal
    · exact absurd hbusy (by simp [hend])
    · rfl
  · cases h
    rfl

theorem keyValid_of_not_invalidatingCommand {i : Instr} (hs : s.keyValid = true)
    (h : exec i s = .next t) (hi : ¬ InvalidatingCommand i s t) : t.keyValid = true := by
  obtain ⟨hgen, hclear⟩ := not_or.mp hi
  by_cases hcommand : i = .genKey
  · subst hcommand
    obtain ⟨-, rfl⟩ | ⟨v, hv, ⟨-, rfl⟩ | ⟨-, rfl⟩⟩ := exec_genKey_cases h
    · exact hs
    · exact hs
    · exact absurd ⟨rfl, by simp [hv], rfl⟩ hgen
  · exact exec_keeps_keyValid hcommand hclear hs h

/-! ### Events -/

theorem eq_key_iff_of_locate {msgBytes : Nat} {a : BitVec 20} {w : Window} {o : Nat}
    (h : locate msgBytes a = some (w, o)) :
    w = .key ↔ 0x100 ≤ a.toNat ∧ a.toNat < 0x120 := by
  obtain ⟨-, r, hr, hcovers, rfl, -⟩ := covers_of_locate h
  revert r
  simp only [addressMap, Region.Covers, List.forall_mem_cons, List.not_mem_nil,
    false_implies, implies_true, and_true, true_iff, false_iff, reduceCtorEq]
  omega

theorem eq_cfg_iff_of_locate {msgBytes : Nat} {a : BitVec 20} {w : Window} {o : Nat}
    (h : locate msgBytes a = some (w, o)) : w = .cfg ↔ a = 0x00C := by
  obtain ⟨haligned, r, hr, hcovers, rfl, -⟩ := covers_of_locate h
  rw [show a = 0x00C ↔ a.toNat = 0x00C from BitVec.toNat_inj.symm]
  revert r
  simp only [addressMap, Region.Covers, List.forall_mem_cons, List.not_mem_nil,
    false_implies, implies_true, and_true, true_iff, false_iff, reduceCtorEq]
  omega

/-- A host write changes the schedule through CFG and the KEY window only. -/
theorem State.writeWindow_schedule (s : State) (w : Window) (o : Nat) (d : Word) :
    (s.writeWindow w o d).schedule =
      if w = .key ∨ w = .cfg ∧ d.extractLsb' 0 8 ≠ s.keyLen then none else s.schedule := by
  cases w with
  | cfg =>
    by_cases hlen : d.extractLsb' 0 8 = s.keyLen <;>
      simp [State.writeWindow, State.writeCfg, hlen]
  | _ => simp [State.writeWindow]

/-- Events (a) and (b) of 41_key_schedule.md R207. -/
def State.InvalidatingWrite (s : State) (a : BitVec 20) (d : Word) : Prop :=
  s.busy = false ∧ (a.toNat % 4 = 0 ∧ 0x100 ≤ a.toNat ∧ a.toNat < 0x120 ∨
    a = 0x00C ∧ d.extractLsb' 0 8 ≠ s.keyLen)

theorem State.invalidatingWrite_iff {a : BitVec 20} {w : Window} {o : Nat} (d : Word)
    (h : locate s.msgBytes a = some (w, o)) : s.InvalidatingWrite a d ↔
      s.busy = false ∧ (w = .key ∨ w = .cfg ∧ d.extractLsb' 0 8 ≠ s.keyLen) := by
  have haligned := (covers_of_locate h).1
  rw [eq_key_iff_of_locate h, eq_cfg_iff_of_locate h]
  simp [State.InvalidatingWrite, haligned]

theorem State.not_invalidatingWrite_of_unmapped {a : BitVec 20} (d : Word)
    (h : locate s.msgBytes a = none) : ¬ s.InvalidatingWrite a d := by
  rintro ⟨-, ⟨haligned, hlow, hhigh⟩ | ⟨rfl, -⟩⟩
  · obtain ⟨w, o, hfound⟩ := exists_locate_iff (msgBytes := s.msgBytes).mpr
      ⟨haligned, .inr (.inl ⟨hlow, by omega⟩)⟩
    simp [h] at hfound
  · cases (locate_cfg _).symm.trans h

theorem State.busWrite_schedule_of_mapped {a : BitVec 20} {w : Window} {o : Nat} (d : Word)
    (h : locate s.msgBytes a = some (w, o)) : (s.busWrite a d).1.schedule =
      if s.busy = false ∧ (w = .key ∨ w = .cfg ∧ d.extractLsb' 0 8 ≠ s.keyLen) then none
      else s.schedule := by
  by_cases hw : w.writable = false
  · have hother : w ≠ .key ∧ w ≠ .cfg := by constructor <;> rintro rfl <;> cases hw
    simp [State.busWrite_readOnly d h hw, hother]
  · rw [Bool.not_eq_false] at hw
    by_cases hidle : s.busy = false
    · rw [State.busWrite_accepted d h hw (.inl hidle), State.writeWindow_schedule]
      simp [hidle]
    · rw [if_neg fun hclears => hidle hclears.1]
      by_cases hwhile : w.writableWhileBusy = true
      · have hother : w ≠ .key ∧ w ≠ .cfg := by constructor <;> rintro rfl <;> cases hwhile
        rw [State.busWrite_accepted d h hw (.inr hwhile), State.writeWindow_schedule]
        simp [hother]
      · rw [State.busWrite_dropped d h hw (by simpa using hidle) (by simpa using hwhile)]

theorem State.busWrite_schedule_cases (s : State) (a : BitVec 20) (d : Word) :
    s.InvalidatingWrite a d ∧ (s.busWrite a d).1.schedule = none ∨
      ¬ s.InvalidatingWrite a d ∧ (s.busWrite a d).1.schedule = s.schedule := by
  cases hloc : locate s.msgBytes a with
  | none =>
    refine .inr ⟨State.not_invalidatingWrite_of_unmapped d hloc, ?_⟩
    rw [State.busWrite_of_unmapped d hloc]
  | some found =>
    rw [State.invalidatingWrite_iff d hloc, State.busWrite_schedule_of_mapped d hloc]
    split
    case isTrue hclears => exact .inl ⟨hclears, rfl⟩
    case isFalse hkeeps => exact .inr ⟨hkeeps, rfl⟩

/-- Events (a), (b) and (e) of 41_key_schedule.md R207. -/
def State.InvalidatingEvent (s : State) : Event → Prop
  | .busWrite a d => s.InvalidatingWrite a d
  | .reset => True
  | .busRead _ | .complete | .entropy _ | .draw => False

/-- An event that is no completion clears the schedule or leaves it alone. -/
theorem State.applyEvent_schedule_cases (s : State) (e : Event) :
    s.InvalidatingEvent e ∧ (s.applyEvent e).schedule = none ∨
      ¬ s.InvalidatingEvent e ∧ (s.applyEvent e).schedule = s.schedule := by
  cases e with
  | busWrite a d => exact s.busWrite_schedule_cases a d
  | reset => exact .inl ⟨trivial, rfl⟩
  | draw => exact .inr ⟨id, s.drawEvent_schedule⟩
  | busRead _ | complete | entropy _ => exact .inr ⟨id, rfl⟩

/-! ### The statement -/

/-- The five events of 41_key_schedule.md R207, for the step from s to t. -/
def InvalidatingStep (s t : State) : Prop :=
  (∃ a d, s.nextEvent = .busWrite a d ∧ s.busy = false ∧ a.toNat % 4 = 0 ∧
      0x100 ≤ a.toNat ∧ a.toNat < 0x120) ∨
    (∃ d : Word, s.nextEvent = .busWrite 0x00C d ∧ s.busy = false ∧
      d.extractLsb' 0 8 ≠ s.keyLen) ∨
    (s.completesNext = true ∧ decode s.cur = .ok .genKey ∧
      Variant.ofKeyLen s.keyLen ≠ none ∧ t.busy = false) ∨
    (s.completesNext = true ∧ decode s.cur = .ok .clear) ∨ s.nextEvent = .reset

theorem busy_of_completesNext (h : s.completesNext = true) :
    s.busy = true ∧ s.nextEvent = .complete := by
  simpa [State.completesNext] using h

theorem invalidatingStep_iff_of_command {i : Instr} (hc : s.completesNext = true)
    (hd : decode s.cur = .ok i) : InvalidatingStep s t ↔ InvalidatingCommand i s t := by
  simp [InvalidatingStep, InvalidatingCommand, hc, hd, (busy_of_completesNext hc).2]

theorem not_invalidatingStep_of_illegal {e : DecodeError} (hc : s.completesNext = true)
    (hd : decode s.cur = .error e) : ¬ InvalidatingStep s t := by
  simp [InvalidatingStep, hd, (busy_of_completesNext hc).2]

theorem invalidatingStep_iff_of_event (hc : s.completesNext = false) :
    InvalidatingStep s t ↔ s.InvalidatingEvent s.nextEvent := by
  cases he : s.nextEvent with
  | busWrite a d =>
    simp [InvalidatingStep, State.InvalidatingEvent, State.InvalidatingWrite, hc, he, and_or_left,
      and_left_comm]
  | _ => simp [InvalidatingStep, State.InvalidatingEvent, hc, he]

/-- A step that is one of the five events clears the schedule; any other step keeps KEY_VALID. -/
theorem step_keyValid_cases (h : step s = .next t) :
    InvalidatingStep s t ∧ t.schedule = none ∨
      ¬ InvalidatingStep s t ∧ (s.keyValid = true → t.keyValid = true) := by
  obtain ⟨i, hc, hd, hstep⟩ | ⟨e, hc, hd, hstep⟩ | ⟨hc, hstep⟩ := step_cases s
  · have hexec : exec i s.afterTake = .next t := hstep.symm.trans h
    have hbusy : s.afterTake.busy = true := (busy_of_completesNext hc).1
    rw [invalidatingStep_iff_of_command hc hd]
    by_cases hi : InvalidatingCommand i s t
    · exact .inl ⟨hi, schedule_of_invalidatingCommand hbusy hexec hi⟩
    · exact .inr ⟨hi, fun hs => keyValid_of_not_invalidatingCommand (s := s.afterTake) hs hexec hi⟩
  · cases hstep.symm.trans h
    exact .inr ⟨not_invalidatingStep_of_illegal hc hd, id⟩
  · cases hstep.symm.trans h
    rw [invalidatingStep_iff_of_event hc]
    obtain ⟨hi, hnone⟩ | ⟨hi, hkept⟩ := s.afterTake.applyEvent_schedule_cases s.nextEvent
    · exact .inl ⟨hi, hnone⟩
    · exact .inr ⟨hi, State.keyValid_of_schedule (s := s) hkept⟩

end

/-- Settles O22: a step is one of the five events and clears the schedule, or is none of them and keeps
KEY_VALID. -/
theorem keyValidClearedExactly : Obligations.KeyValidClearedExactly := by
  intro s t h
  obtain ⟨hi, hnone⟩ | ⟨hi, hkept⟩ := step_keyValid_cases h
  · exact ⟨fun _ => State.cleared_of_schedule hnone, fun _ _ => hi⟩
  · exact ⟨fun hi' => absurd hi' hi, fun hs ht => absurd (hkept hs) (by simp [ht])⟩

end Sys2Proof.Machine
end

section
/-! Proofs about the block transform: what a byte-wise and a column-wise function give at one byte and one
column, the columns as cyclic combinations, and the order of the rounds (42_block_transform.md R230–R238). -/

namespace Sys2Proof

open Sys2Proof.Machine

/-! ### Functions of a byte and of a column -/

/-- `Quad.row` reads row 3 at every r past 2, so the law needs no bound. -/
@[simp] theorem Quad.row_map (f : Byte → Byte) (q : Quad) (r : Nat) : (q.map f).row r = f (q.row r) := by
  match r with
  | 0 | 1 | 2 | _ + 3 => rfl

/-- `Block.column` reads column 3 at every c past 2, so the law needs no bound. -/
@[simp] theorem Block.column_mapColumns (f : Quad → Quad) (b : Block) (c : Nat) :
    (b.mapColumns f).column c = f (b.column c) := by
  match c with
  | 0 | 1 | 2 | _ + 3 => rfl

@[simp] theorem subBytes_byte (s : Block) (i : Nat) : (subBytes s).byte i = sbox (s.byte i) := by
  simp [subBytes, Block.byte]

@[simp] theorem invSubBytes_byte (s : Block) (i : Nat) :
    (invSubBytes s).byte i = invSbox (s.byte i) := by
  simp [invSubBytes, Block.byte]

@[simp] theorem mixColumns_column (s : Block) (c : Nat) :
    (mixColumns s).column c = mixColumn (s.column c) :=
  Block.column_mapColumns _ s c

@[simp] theorem invMixColumns_column (s : Block) (c : Nat) :
    (invMixColumns s).column c = invMixColumn (s.column c) :=
  Block.column_mapColumns _ s c

/-- Settles O13: the two substitutions are one function at every byte, and AddRoundKey is the blocks' XOR. -/
theorem bytewisePrimitives : Obligations.BytewisePrimitives := by
  intro s k i hi
  exact ⟨subBytes_byte s i, invSubBytes_byte s i, Block.xor_byte s k i hi⟩

/-! ### The mixing of a column -/

@[simp] theorem gfMultiply_one (a : Byte) : gfMultiply a 1#8 = a := by
  simp [gfMultiply, gfMultiplyLoop]

/-- Output row r of the cyclic combination of a column with coefficients k: input row j takes
k[(j − r) mod 4] (42_block_transform.md R234, R235). -/
def cyclicCombination (k : List Byte) (q : Quad) (r : Nat) : Byte :=
  gfMultiply (q.row 0) (k.getD ((4 - r) % 4) 0) ^^^ gfMultiply (q.row 1) (k.getD ((5 - r) % 4) 0) ^^^
    gfMultiply (q.row 2) (k.getD ((6 - r) % 4) 0) ^^^ gfMultiply (q.row 3) (k.getD ((7 - r) % 4) 0)

/-- Each table of `mixColumn` is the product by its coefficient, and an input row without a table has
coefficient 1. -/
theorem mixColumn_row (q : Quad) {r : Nat} (h : r < 4) :
    (mixColumn q).row r = cyclicCombination [2, 3, 1, 1] q r := by
  interval_cases r <;>
    simp [mixColumn, cyclicCombination, Quad.row, mul2_eq, mul3_eq]

theorem invMixColumn_row (q : Quad) {r : Nat} (h : r < 4) :
    (invMixColumn q).row r = cyclicCombination [14, 11, 13, 9] q r := by
  interval_cases r <;>
    simp [invMixColumn, cyclicCombination, Quad.row, mul9_eq, mul11_eq, mul13_eq, mul14_eq]

/-- Settles O15: both mixings act column by column; the equations by table are `mixColumn` and
`invMixColumn` themselves, and row by row these are the cyclic combinations. -/
theorem columnMixing : Obligations.ColumnMixing := by
  intro s c _
  rw [mixColumns_column, invMixColumns_column]
  exact ⟨fun r hr => ⟨mixColumn_row _ hr, invMixColumn_row _ hr⟩, rfl, rfl⟩

/-! ### The order of the rounds -/

/-- The last round of encryption is applied to the result of the rounds before it. -/
theorem encryptRounds_eq_foldl (rk : Vector Block 15) (n : Nat) (s : Block) :
    encryptRounds rk n s =
      (List.range n).foldl (fun s r => encryptRound (roundKey rk (r + 1)) s) s := by
  induction n with
  | zero => rfl
  | succ n ih => simp [encryptRounds, List.range_succ, ih]

/-- The round of the highest index comes first in decryption. -/
theorem decryptRounds_eq_foldr (rk : Vector Block 15) (n : Nat) (s : Block) :
    decryptRounds rk n s =
      (List.range n).foldr (fun r s => decryptRound (roundKey rk (r + 1)) s) s := by
  induction n generalizing s with
  | zero => rfl
  | succ n ih => simp [decryptRounds, List.range_succ, ih]

/-- Settles O16: the middle rounds are the two folds; the whitening and the final step are those of
`blockEncrypt` and `blockDecrypt` themselves. -/
theorem blockTransformComposition : Obligations.BlockTransformComposition := by
  intro rk n b
  rw [blockEncrypt, blockDecrypt, Nat.add_sub_cancel, encryptRounds_eq_foldl, decryptRounds_eq_foldr]
  exact ⟨rfl, rfl⟩

end Sys2Proof
end

section
/-! Proofs about the CBC controller: what one turn of the two loops writes, the plan a whole loop follows, how
CBC_ENC and CBC_DEC end, and the statement TraceRecordLayout (43_cbc_controller.md R280–R287). -/

namespace Sys2Proof

open Sys2Proof.Machine

/-! ### The decipher reads round keys 0..Nr -/

theorem decryptRounds_congr {rk rk' : Vector Block 15} (n : Nat) (b : Block)
    (h : ∀ r, r ≤ n → roundKey rk r = roundKey rk' r) : decryptRounds rk n b = decryptRounds rk' n b := by
  induction n generalizing b with
  | zero => rfl
  | succ n ih =>
    rw [decryptRounds, decryptRounds, h (n + 1) le_rfl, ih _ fun r hr => h r (by omega)]

theorem blockDecrypt_congr {rk rk' : Vector Block 15} (nr : Nat) (b : Block)
    (h : ∀ r, r ≤ nr → roundKey rk r = roundKey rk' r) : blockDecrypt rk nr b = blockDecrypt rk' nr b := by
  simp only [blockDecrypt, h 0 (Nat.zero_le nr), h nr le_rfl,
    decryptRounds_congr (nr - 1) _ fun r hr => h r (by omega)]

end Sys2Proof

namespace Sys2Proof.Machine

open Sys2Proof

/-- Under the key-schedule invariant the held schedule deciphers as a fresh expansion of the key does
(20_memory.md R106). -/
theorem State.decrypt_eq_keyDecipher {s : State} {v : Variant} (hok : s.ScheduleOk)
    (hv : s.schedule = some v) : s.decrypt = keyDecipher v s.key := by
  funext b
  have hnr : s.nr = v.nr := by simp [State.nr, hv]
  rw [State.decrypt, keyDecipher, hnr]
  refine blockDecrypt_congr v.nr b fun r hr => ?_
  have h15 : r < 15 := lt_of_le_of_lt hr (Variant.nr_lt v)
  rw [(hok v hv).2 r hr, roundKey_scheduleRam _ _ _ _ h15, if_pos hr]

/-! ### The trace buffer field by field -/

section
variable (s : State)

theorem State.traceField_byte (k f : Nat) {i : Nat} (h : i < 16) :
    (s.traceField k f).byte i = s.traceByte (48 * k + 16 * f + i) := by
  simp [State.traceField, Block.ofBytes_byte _ _ h, h]

theorem State.traceByte_traceWrite_inside (k : Nat) (a b c : Block) {j : Nat}
    (h : j < (a.bytes ++ b.bytes ++ c.bytes).length) :
    (s.traceWrite k a b c).traceByte (48 * k + j) = (a.bytes ++ b.bytes ++ c.bytes)[j] := by
  simp only [State.traceByte, State.traceWrite_trace, Memory.find_writeBytes_inside _ _ _ _ h,
    Option.getD_some]

/-- `TraceWrite(k, a, b, c)` puts a, b and c in the three fields of record k (43_cbc_controller.md R287). -/
theorem State.traceField_traceWrite_same (k : Nat) (a b c : Block) :
    (s.traceWrite k a b c).traceField k 0 = a ∧ (s.traceWrite k a b c).traceField k 1 = b ∧
      (s.traceWrite k a b c).traceField k 2 = c := by
  refine ⟨Block.ext_byte fun i hi => ?_, Block.ext_byte fun i hi => ?_, Block.ext_byte fun i hi => ?_⟩ <;>
    rw [State.traceField_byte _ _ _ hi, Nat.add_assoc,
      State.traceByte_traceWrite_inside _ _ _ _ _ (by simp; omega)]
  · simp [Block.bytes_getElem, hi]
  · simp [Block.bytes_getElem, hi]
  · simp [List.getElem_append, Block.bytes_getElem, show ¬ 32 + i < 16 by omega,
      show ¬ 32 + i - 16 < 16 by omega, show 32 + i - 16 - 16 = i by omega]

/-- `TraceWrite` of one record leaves the fields of every other record alone. -/
theorem State.traceField_traceWrite_ne {k r f : Nat} (a b c : Block) (hr : r ≠ k) (hf : f < 3) :
    (s.traceWrite k a b c).traceField r f = s.traceField r f :=
  Block.ext_byte fun i hi => by
    rw [State.traceField_byte _ _ _ hi, State.traceField_byte _ _ _ hi,
      State.traceByte_traceWrite_outside _ _ _ _ _ _ (by omega)]

theorem State.traceIfEnabled_on (h : s.traceEn = true) (k : Nat) (a b c : Block) :
    s.traceIfEnabled k a b c = s.traceWrite k a b c := by simp [State.traceIfEnabled, h]

theorem State.traceIfEnabled_off (h : s.traceEn = false) (k : Nat) (a b c : Block) :
    s.traceIfEnabled k a b c = s := by simp [State.traceIfEnabled, h]

@[simp] theorem State.traceIfEnabled_msgByte (k : Nat) (a b c : Block) (o : Nat) :
    (s.traceIfEnabled k a b c).msgByte o = s.msgByte o := by
  unfold State.traceIfEnabled
  split <;> rfl

end

/-! ### The plan of a CBC loop -/

/-- What a CBC loop does at block k: the three fields of its trace record, the block it stores in MSG, and
PREV before it (43_cbc_controller.md R282, R284). -/
structure ChainPlan where
  first : Nat → Block
  second : Nat → Block
  third : Nat → Block
  stored : Nat → Block
  prev : Nat → Block

/-- PREV before block k of CBC_ENC: at first PREV itself, then the ciphertext of the block before. -/
def State.cipherChain (a : State) : Nat → Block
  | 0 => a.prev
  | k + 1 => a.encrypt ((a.memReadBlock (16 * k)).xor (a.cipherChain k))

/-- CBC_ENC's loop from state a (43_cbc_controller.md R282). -/
def State.encPlan (a : State) : ChainPlan where
  first k := a.memReadBlock (16 * k)
  second k := (a.memReadBlock (16 * k)).xor (a.cipherChain k)
  third k := a.cipherChain (k + 1)
  stored k := a.cipherChain (k + 1)
  prev := a.cipherChain

/-- PREV before block k of CBC_DEC: at first PREV itself, then the ciphertext block before. -/
def State.decChain (a : State) (k : Nat) : Block :=
  if k = 0 then a.prev else a.memReadBlock (16 * (k - 1))

/-- CBC_DEC's loop from state a (43_cbc_controller.md R284). -/
def State.decPlan (a : State) : ChainPlan where
  first k := a.memReadBlock (16 * k)
  second k := (a.decrypt (a.memReadBlock (16 * k))).xor (a.decChain k)
  third k := a.decrypt (a.memReadBlock (16 * k))
  stored k := (a.decrypt (a.memReadBlock (16 * k))).xor (a.decChain k)
  prev := a.decChain

/-- One turn of a loop that follows the plan: block k. -/
def State.planTurn (t : State) (p : ChainPlan) (k : Nat) : State :=
  { (t.traceIfEnabled k (p.first k) (p.second k) (p.third k)).memWrite (16 * k) (p.stored k).bytes with
    prev := p.prev (k + 1) }

/-- Record k of TRACE is the one of the plan (43_cbc_controller.md R287). -/
def State.HasRecord (t : State) (p : ChainPlan) (k : Nat) : Prop :=
  t.traceField k 0 = p.first k ∧ t.traceField k 1 = p.second k ∧ t.traceField k 2 = p.third k

/-- The loop that began in a has done the first j blocks of the plan and is now in t. -/
structure FollowsPlan (p : ChainPlan) (a : State) (j : Nat) (t : State) : Prop where
  frame : ∃ msg trace prev, t = { a with msg := msg, trace := trace, prev := prev }
  prev : t.prev = p.prev j
  stored : ∀ k, k < j → t.memReadBlock (16 * k) = p.stored k
  rest : ∀ o, 16 * j ≤ o → t.msgByte o = a.msgByte o
  untraced : a.traceEn = false → t.trace = a.trace
  traced : a.traceEn = true → ∀ k, k < j → t.HasRecord p k

section
variable {p : ChainPlan} {a t : State} {k : Nat}

/-! ### One turn -/

theorem State.planTurn_frame (t : State) (p : ChainPlan) (k : Nat) :
    ∃ msg trace prev, t.planTurn p k = { t with msg := msg, trace := trace, prev := prev } := by
  unfold State.planTurn State.traceIfEnabled
  split <;> exact ⟨_, _, _, rfl⟩

theorem State.planTurn_msgByte_outside (t : State) (p : ChainPlan) {o : Nat}
    (h : o < 16 * k ∨ 16 * k + 16 ≤ o) : (t.planTurn p k).msgByte o = t.msgByte o := by
  have hwrite := State.msgByte_memWrite_outside
    (t.traceIfEnabled k (p.first k) (p.second k) (p.third k)) (16 * k) (p.stored k).bytes o (by simpa using h)
  rw [State.traceIfEnabled_msgByte] at hwrite
  exact hwrite

theorem State.planTurn_memReadBlock_same (t : State) (p : ChainPlan) (k : Nat) :
    (t.planTurn p k).memReadBlock (16 * k) = p.stored k :=
  State.memReadBlock_memWrite _ _ _

theorem State.planTurn_trace_off (h : t.traceEn = false) (p : ChainPlan) (k : Nat) :
    (t.planTurn p k).trace = t.trace := by
  simp [State.planTurn, State.traceIfEnabled_off t h]

theorem State.planTurn_traceField_on (h : t.traceEn = true) (p : ChainPlan) (k r f : Nat) :
    (t.planTurn p k).traceField r f =
      (t.traceWrite k (p.first k) (p.second k) (p.third k)).traceField r f := by
  simp only [State.planTurn, State.traceIfEnabled_on t h]
  rfl

theorem State.planTurn_hasRecord_same (h : t.traceEn = true) (p : ChainPlan) (k : Nat) :
    (t.planTurn p k).HasRecord p k := by
  simp only [State.HasRecord, State.planTurn_traceField_on h]
  exact t.traceField_traceWrite_same k _ _ _

theorem State.planTurn_hasRecord_ne (h : t.traceEn = true) {r : Nat} (hr : r ≠ k)
    (hrecord : t.HasRecord p r) : (t.planTurn p k).HasRecord p r := by
  simpa [State.HasRecord, State.planTurn_traceField_on h, State.traceField_traceWrite_ne t _ _ _ hr]
    using hrecord

/-! ### The whole loop -/

theorem FollowsPlan.start (h : p.prev 0 = a.prev) : FollowsPlan p a 0 a where
  frame := ⟨_, _, _, rfl⟩
  prev := h.symm
  stored _ hk := absurd hk (Nat.not_lt_zero _)
  rest _ _ := rfl
  untraced _ := rfl
  traced _ _ hk := absurd hk (Nat.not_lt_zero _)

theorem FollowsPlan.traceEn_eq (h : FollowsPlan p a k t) : t.traceEn = a.traceEn := by
  obtain ⟨msg, trace, prev, rfl⟩ := h.frame
  rfl

theorem FollowsPlan.iv_eq (h : FollowsPlan p a k t) : t.iv = a.iv := by
  obtain ⟨msg, trace, prev, rfl⟩ := h.frame
  rfl

theorem FollowsPlan.encrypt_eq (h : FollowsPlan p a k t) : t.encrypt = a.encrypt := by
  obtain ⟨msg, trace, prev, rfl⟩ := h.frame
  rfl

theorem FollowsPlan.decrypt_eq (h : FollowsPlan p a k t) : t.decrypt = a.decrypt := by
  obtain ⟨msg, trace, prev, rfl⟩ := h.frame
  rfl

/-- The block a turn reads is still the one of the loop's first state. -/
theorem FollowsPlan.memReadBlock_eq (h : FollowsPlan p a k t) :
    t.memReadBlock (16 * k) = a.memReadBlock (16 * k) :=
  State.memReadBlock_congr fun j _ => h.rest (16 * k + j) (by omega)

theorem FollowsPlan.planTurn (h : FollowsPlan p a k t) : FollowsPlan p a (k + 1) (t.planTurn p k) where
  frame := by
    obtain ⟨msg, trace, prev, hturn⟩ := t.planTurn_frame p k
    obtain ⟨_, _, _, ht⟩ := h.frame
    exact ⟨msg, trace, prev, by rw [hturn, ht]⟩
  prev := rfl
  stored r hr := by
    rcases Nat.lt_succ_iff_lt_or_eq.mp hr with hlt | rfl
    · rw [← h.stored r hlt]
      exact State.memReadBlock_congr fun j _ => t.planTurn_msgByte_outside p (by omega)
    · exact t.planTurn_memReadBlock_same p r
  rest o ho := (t.planTurn_msgByte_outside p (by omega)).trans (h.rest o (by omega))
  untraced hoff := (State.planTurn_trace_off (h.traceEn_eq.trans hoff) p k).trans (h.untraced hoff)
  traced hon r hr := by
    have ht : t.traceEn = true := h.traceEn_eq.trans hon
    rcases Nat.lt_succ_iff_lt_or_eq.mp hr with hlt | rfl
    · exact State.planTurn_hasRecord_ne ht (Nat.ne_of_lt hlt) (h.traced hon r hlt)
    · exact State.planTurn_hasRecord_same ht p r

/-- A loop whose turns are those of the plan follows it to its end. -/
theorem followsPlan_forBlocks {body : Nat → State → State} (h0 : p.prev 0 = a.prev)
    (hbody : ∀ j t, FollowsPlan p a j t → body j t = t.planTurn p j) (n : Nat) :
    FollowsPlan p a n (forBlocks body n 0 a) := by
  have hturn : ∀ j t, 0 ≤ j → j < 0 + n → FollowsPlan p a j t → FollowsPlan p a (j + 1) (body j t) := by
    intro j t _ _ ht
    rw [hbody j t ht]
    exact ht.planTurn
  have hloop := forBlocks_induct n 0 a (FollowsPlan.start h0) hturn
  rwa [Nat.zero_add] at hloop

theorem cbcEncBlock_eq_planTurn (h : FollowsPlan a.encPlan a k t) :
    cbcEncBlock k t = t.planTurn a.encPlan k := by
  simp only [cbcEncBlock, h.memReadBlock_eq, h.prev, h.encrypt_eq]
  rfl

theorem cbcDecBlock_eq_planTurn (h : FollowsPlan a.decPlan a k t) :
    cbcDecBlock k t = t.planTurn a.decPlan k := by
  simp only [cbcDecBlock, h.memReadBlock_eq, h.prev, h.decrypt_eq]
  rfl

theorem followsPlan_encrypt (a : State) (n : Nat) :
    FollowsPlan a.encPlan a n (forBlocks cbcEncBlock n 0 a) :=
  followsPlan_forBlocks rfl (fun _ _ => cbcEncBlock_eq_planTurn) n

theorem followsPlan_decrypt (a : State) (n : Nat) :
    FollowsPlan a.decPlan a n (forBlocks cbcDecBlock n 0 a) :=
  followsPlan_forBlocks rfl (fun _ _ => cbcDecBlock_eq_planTurn) n

end

/-! ### The padded message -/

@[simp] theorem padBytes_length (length : Nat) : (padBytes length).length = padCount length :=
  List.length_replicate

section
variable (s : State)

theorem State.writePadding_msgByte {o : Nat} (h : o < s.paddedLength) :
    s.writePadding.msgByte o = (pad (s.memRead 0 s.msgLength)).getD o 0 := by
  rw [pad, State.memRead_length]
  rcases Nat.lt_or_ge o s.msgLength with hmessage | hpadding
  · rw [State.writePadding, State.msgByte_memWrite_outside _ _ _ _ (.inl hmessage),
      List.getD_append _ _ _ _ (by simpa using hmessage),
      List.getD_eq_getElem _ _ (by simpa using hmessage), State.memRead_getElem, Nat.zero_add]
  · obtain ⟨j, rfl⟩ := Nat.exists_eq_add_of_le hpadding
    have hj : j < (padBytes s.msgLength).length := by
      rw [padBytes_length]
      simp only [State.paddedLength] at h
      omega
    rw [State.writePadding, State.msgByte_memWrite_inside _ _ _ _ hj,
      List.getD_append_right _ _ _ _ (by simp), State.memRead_length, Nat.add_sub_cancel_left,
      List.getD_eq_getElem _ _ hj]

/-- After the pad bytes are written, MSG holds the blocks of the padded message (44_padding.md R330). -/
theorem State.writePadding_memReadBlock {k : Nat} (h : k < s.paddedLength / 16) :
    s.writePadding.memReadBlock (16 * k) = s.paddedBlock k :=
  Block.ext_byte fun i hi => by
    rw [State.memReadBlock_byte _ _ _ hi, State.writePadding_msgByte s (by omega), State.paddedBlock,
      Block.ofBytes_byte _ _ hi]
    simp [List.getD_eq_getElem?_getD]

/-! ### How the two commands end -/

/-- `SelectIV()` changes IV and the drawn bytes, and nothing else (43_cbc_controller.md R280). -/
theorem State.selectIv_frame {s s1 : State} (h : s.selectIv = some s1) :
    s1 = { s with iv := s1.iv, taken := s1.taken } := by
  unfold State.selectIv at h
  split at h
  case isTrue =>
    rcases Nat.lt_or_ge s.taken.length 16 with hshort | hready
    · simp [State.drawIv, State.draws_of_lt hshort] at h
    · simp only [State.drawIv, State.draws_of_le hready, Option.some.injEq] at h
      rw [← h]
  case isFalse =>
    cases h
    rfl

/-- `EnsureKey()` and then `SelectIV()` change the schedule, IV and the drawn bytes, and nothing else. -/
theorem State.ensureKey_selectIv_frame {s s1 : State} {v : Variant}
    (h : (s.ensureKey v).selectIv = some s1) : ∃ iv taken rk schedule,
      s1 = { s with iv := iv, taken := taken, rk := rk, schedule := schedule } := by
  refine ⟨s1.iv, s1.taken, (s.ensureKey v).rk, (s.ensureKey v).schedule, ?_⟩
  rw [State.selectIv_frame h, s.ensureKey_frame v]

/-- `SelectIV()` waits exactly for missing bytes of an IV to be drawn. -/
theorem State.selectIv_eq_none_iff :
    s.selectIv = none ↔ s.ivLen = 0 ∧ s.taken.length < 16 := by
  unfold State.selectIv State.drawIv
  rcases Nat.lt_or_ge s.taken.length 16 with hshort | hready
  · simp [State.draws_of_lt hshort, hshort]
  · simp only [State.draws_of_le hready, Nat.not_lt.mpr hready, and_false, iff_false]
    split <;> simp

end

section
variable {s t : State} {v : Variant}

/-- With a legal key length CBC_ENC raises, holds, or encrypts a message that fits (43_cbc_controller.md
R282). -/
theorem exec_cbcEnc_cases (hv : Variant.ofKeyLen s.keyLen = some v) (h : exec .cbcEnc s = .next t) :
    (∃ e, t = s.raise e) ∨ (s.ivLen = 0 ∧ s.taken.length < 16 ∧ t = s) ∨
      s.paddedLength ≤ s.msgBytes ∧
        ∃ s1, (s.ensureKey v).selectIv = some s1 ∧ t = s1.cbcEncrypt := by
  simp only [exec, execCbcEnc, State.checkKey_of_some hv] at h
  split at h
  case isTrue => cases h; exact .inl ⟨_, rfl⟩
  split at h
  case isTrue => cases h; exact .inl ⟨_, rfl⟩
  case isFalse hfits =>
    split at h <;> cases h
    case h_1 hnone =>
      rw [State.selectIv_eq_none_iff, State.ensureKey_frame] at hnone
      exact .inr (.inl ⟨hnone.1, hnone.2, rfl⟩)
    case h_2 s1 hsome => exact .inr (.inr ⟨Nat.not_lt.mp hfits, s1, hsome, rfl⟩)

/-- With a legal key length CBC_DEC raises or runs its execute part (43_cbc_controller.md R284). -/
theorem exec_cbcDec_cases (hv : Variant.ofKeyLen s.keyLen = some v) (h : exec .cbcDec s = .next t) :
    (∃ e, t = s.raise e) ∨ t = (s.ensureKey v).cbcDecrypt := by
  simp only [exec, execCbcDec, State.checkKey_of_some hv] at h
  iterate 3
    split at h
    case isTrue => cases h; exact .inl ⟨_, rfl⟩
  cases h
  exact .inr rfl

end

/-- CBC_DEC's execute part fails, or ends with the loop's MSG and TRACE (43_cbc_controller.md R284, R285). -/
theorem State.cbcDecrypt_cases (s : State) :
    s.cbcDecrypt.error = some .decryptFailed ∨
      ∃ n, s.cbcDecrypt = (((forBlocks cbcDecBlock (s.msgLength / 16) 0 s.startChain).setMsgLength
        (s.msgLength - n)).setBlockCount (s.msgLength / 16)).complete := by
  simp only [State.cbcDecrypt]
  split
  case h_1 => exact .inl rfl
  case h_2 n _ => exact .inr ⟨n, rfl⟩

theorem State.cbcEncrypt_msgLength {s : State} (h : s.paddedLength ≤ s.msgBytes) :
    s.cbcEncrypt.msgLength = s.paddedLength := by
  have hsize := s.msgBytes_le
  have hlen : s.cbcEncrypt.msgLength = s.paddedLength % 2 ^ 16 := BitVec.toNat_ofNat _ _
  rw [hlen, Nat.mod_eq_of_lt (by omega)]

/-! ### The records the two commands leave -/

/-- CBC_ENC's trace after `SelectIV()` (43_cbc_controller.md R286, R287). -/
theorem State.cbcEncrypt_trace {s : State} (hfits : s.paddedLength ≤ s.msgBytes) :
    (s.traceEn = false → s.cbcEncrypt.trace = s.trace) ∧
      (s.traceEn = true → ∀ k, k < s.cbcEncrypt.msgLength / 16 →
        s.cbcEncrypt.traceField k 0 = s.paddedBlock k ∧
        s.cbcEncrypt.traceField k 1 = (s.paddedBlock k).xor
          (if k = 0 then s.cbcEncrypt.iv else s.cbcEncrypt.memReadBlock (16 * (k - 1))) ∧
        s.cbcEncrypt.traceField k 2 = s.cbcEncrypt.memReadBlock (16 * k)) := by
  have hloop := followsPlan_encrypt s.writePadding.startChain (s.paddedLength / 16)
  refine ⟨hloop.untraced, fun hon k hk => ?_⟩
  rw [State.cbcEncrypt_msgLength hfits] at hk
  have hblock : s.writePadding.startChain.memReadBlock (16 * k) = s.paddedBlock k :=
    s.writePadding_memReadBlock hk
  have hiv : s.cbcEncrypt.iv = s.iv := hloop.iv_eq
  have hprev : s.writePadding.startChain.cipherChain k =
      if k = 0 then s.cbcEncrypt.iv else s.cbcEncrypt.memReadBlock (16 * (k - 1)) := by
    cases k with
    | zero => exact hiv.symm
    | succ r => exact (hloop.stored r (by omega)).symm
  obtain ⟨hfirst, hsecond, hthird⟩ := hloop.traced hon k hk
  refine ⟨hfirst.trans hblock, hsecond.trans ?_, hthird.trans (hloop.stored k hk).symm⟩
  rw [← hblock, ← hprev]
  rfl

/-- CBC_DEC's trace after `EnsureKey()`, when the padding is valid (43_cbc_controller.md R286, R287). -/
theorem State.cbcDecrypt_trace {s : State} {v : Variant} (hok : s.ScheduleOk) (hv : s.schedule = some v)
    (herr : s.cbcDecrypt.error = none) :
    (s.traceEn = false → s.cbcDecrypt.trace = s.trace) ∧
      (s.traceEn = true → ∀ k, k < s.msgLength / 16 →
        s.cbcDecrypt.traceField k 0 = s.memReadBlock (16 * k) ∧
        s.cbcDecrypt.traceField k 1 = s.plainBlock v k ∧
        s.cbcDecrypt.traceField k 2 = keyDecipher v s.key (s.memReadBlock (16 * k))) := by
  obtain hfail | ⟨n, hend⟩ := s.cbcDecrypt_cases
  · rw [hfail] at herr
    cases herr
  · have hloop := followsPlan_decrypt s.startChain (s.msgLength / 16)
    have hdecipher : s.startChain.decrypt = keyDecipher v s.key := State.decrypt_eq_keyDecipher hok hv
    rw [hend]
    refine ⟨hloop.untraced, fun hon k hk => ?_⟩
    obtain ⟨hfirst, hsecond, hthird⟩ := hloop.traced hon k hk
    refine ⟨hfirst, hsecond.trans ?_, hthird.trans (congrFun hdecipher _)⟩
    exact congrArg (Block.xor · _) (congrFun hdecipher _)

/-- Settles O38: a command that ends without error went through its loop, whose turns write the records of
its plan; the key check and `SelectIV()` before it change nothing a record is stated by. -/
theorem traceRecordLayout : Obligations.TraceRecordLayout := by
  intro s t v hok hv _ herr _
  refine ⟨fun _ hdraw h => ?_, fun _ h => ?_⟩
  · obtain ⟨e, rfl⟩ | ⟨hiv, hshort, -⟩ | ⟨hfits, s1, hselect, rfl⟩ := exec_cbcEnc_cases hv h
    · cases herr
    · simp only [State.canDraw, drawCount, hiv, if_true] at hdraw
      omega
    · obtain ⟨iv, taken, rk, schedule, rfl⟩ := State.ensureKey_selectIv_frame hselect
      have htrace := State.cbcEncrypt_trace
        (s := { s with iv := iv, taken := taken, rk := rk, schedule := schedule }) hfits
      exact htrace
  · obtain ⟨e, rfl⟩ | rfl := exec_cbcDec_cases hv h
    · cases herr
    · obtain ⟨hok', hv'⟩ := State.ensureKey_scheduleOk hok hv
      have htrace := State.cbcDecrypt_trace hok' hv' herr
      rw [s.ensureKey_frame v] at htrace ⊢
      exact htrace

end Sys2Proof.Machine
end

section
/-! Proofs about the padding validator: what it accepts, how it fails, and the statement
UnpadAcceptsExactlyPadded (44_padding.md R331). -/

namespace Sys2Proof

/-- The only success of `unpad`: the data is what it returns, followed by the pad bytes. -/
theorem padded_of_unpad_eq_ok {data m : List Byte} {n : Nat} (h : unpad data = .ok (m, n)) :
    1 ≤ n ∧ n ≤ 16 ∧ data = m ++ List.replicate n (BitVec.ofNat 8 n) := by
  unfold unpad at h
  split at h
  · cases h
  next last _ =>
    dsimp only at h
    split_ifs at h with hrange hall
    obtain ⟨rfl, rfl⟩ : data.take (data.length - last.toNat) = m ∧ last.toNat = n := by simpa using h
    obtain ⟨hzero, hlarge, hlong⟩ : last.toNat ≠ 0 ∧ ¬16 < last.toNat ∧ ¬data.length < last.toNat := by
      simpa only [not_or] using hrange
    have hpad : data.drop (data.length - last.toNat) = List.replicate last.toNat last := by
      refine List.eq_replicate_iff.2 ⟨?_, fun b hb => eq_of_beq (List.all_eq_true.1 hall b hb)⟩
      rw [List.length_drop]
      omega
    refine ⟨by omega, by omega, ?_⟩
    rw [BitVec.ofNat_toNat, BitVec.setWidth_eq, ← hpad, List.take_append_drop]

/-- A pad length read back from its byte. -/
theorem toNat_padByte {n : Nat} (hle : n ≤ 16) : (BitVec.ofNat 8 n).toNat = n := by
  rw [BitVec.toNat_ofNat, Nat.mod_eq_of_lt (by omega)]

/-- `unpad` strips every run of n bytes of value n, 1 ≤ n ≤ 16. -/
theorem unpad_append_replicate {n : Nat} (m : List Byte) (hpos : 1 ≤ n) (hle : n ≤ 16) :
    unpad (m ++ List.replicate n (BitVec.ofNat 8 n)) = .ok (m, n) := by
  have hlast : (m ++ List.replicate n (BitVec.ofNat 8 n)).getLast? = some (BitVec.ofNat 8 n) := by
    rw [List.getLast?_append, List.getLast?_replicate, if_neg (by omega), Option.some_or]
  have hrange : ¬(n = 0 ∨ 16 < n ∨ (m ++ List.replicate n (BitVec.ofNat 8 n)).length < n) := by
    rw [List.length_append, List.length_replicate]
    omega
  have hpad : (m ++ List.replicate n (BitVec.ofNat 8 n)).length - n = m.length := by simp
  simp only [unpad, hlast, toNat_padByte hle, if_neg hrange, hpad, List.drop_left, List.take_left]
  exact if_pos (by simp)

theorem unpad_eq_ok_iff {data m : List Byte} {n : Nat} : unpad data = .ok (m, n) ↔
    1 ≤ n ∧ n ≤ 16 ∧ data = m ++ List.replicate n (BitVec.ofNat 8 n) := by
  refine ⟨padded_of_unpad_eq_ok, ?_⟩
  rintro ⟨hpos, hle, rfl⟩
  exact unpad_append_replicate m hpos hle

theorem unpad_eq_emptyInput_iff {data : List Byte} : unpad data = .error .emptyInput ↔ data = [] := by
  refine ⟨fun h => ?_, fun h => h ▸ rfl⟩
  unfold unpad at h
  split at h
  · exact List.getLast?_eq_none_iff.1 ‹_›
  · dsimp only at h
    split_ifs at h <;> cases h

/-- `unpad` has one success and two failures, so InvalidPadding is what the others leave. -/
theorem unpad_eq_invalidPadding_iff {data : List Byte} : unpad data = .error .invalidPadding ↔
    unpad data ≠ .error .emptyInput ∧ ¬∃ m n, unpad data = .ok (m, n) := by
  cases unpad data with
  | ok r =>
    obtain ⟨m, n⟩ := r
    simp
  | error f => cases f <;> simp

/-- Settles O31: the success and the EmptyInput failure have their characterisations, and InvalidPadding is
the complement of both. -/
theorem unpadAcceptsExactlyPadded : Obligations.UnpadAcceptsExactlyPadded := by
  refine ⟨fun _ _ _ => unpad_eq_ok_iff, fun _ => unpad_eq_emptyInput_iff, fun data => ?_⟩
  simp only [unpad_eq_invalidPadding_iff, unpad_eq_ok_iff, ne_eq, unpad_eq_emptyInput_iff]

end Sys2Proof
end

section
/-! Proofs about the commands of 45_system.md: the completion of an illegal word (R355), NOP (R352) and
CLEAR (R353), with what the bus shows of a register or buffer that holds zeros. -/

namespace Sys2Proof

theorem Quad.row_zero (r : Nat) : Quad.row ⟨0, 0, 0, 0⟩ r = 0 := by
  unfold Quad.row
  split <;> rfl

namespace Machine

theorem column_zeroBlock (c : Nat) : zeroBlock.column c = ⟨0, 0, 0, 0⟩ := by
  unfold Block.column
  split <;> rfl

theorem byte_zeroBlock (i : Nat) : zeroBlock.byte i = 0 := by
  rw [Block.byte, column_zeroBlock, Quad.row_zero]

/-! ### What the bus shows of zeros -/

section
variable {s : State}

theorem State.keyByte_of_key_zero (h : s.key = Vector.replicate 8 ⟨0, 0, 0, 0⟩) (j : Nat) :
    s.keyByte j = 0 := by
  rw [State.keyByte, h, Vector.getElem?_replicate]
  split <;> exact Quad.row_zero _

theorem State.readWindow_key_zero (h : s.key = Vector.replicate 8 ⟨0, 0, 0, 0⟩) (o : Nat) :
    s.readWindow .key o = 0 := by
  simp only [State.readWindow, State.keyByte_of_key_zero h]
  rfl

theorem State.readWindow_iv_zero (h : s.iv = zeroBlock) (o : Nat) : s.readWindow .iv o = 0 := by
  simp only [State.readWindow, h, column_zeroBlock]
  rfl

theorem State.readWindow_state_zero (h : s.stateReg = zeroBlock) (o : Nat) :
    s.readWindow .state o = 0 := by
  simp only [State.readWindow, h, column_zeroBlock]
  rfl

/-- With no schedule held RKEY reads 0, whatever RK holds (10_state.md R44). -/
theorem State.readWindow_rkey_of_no_schedule (h : s.schedule = none) (o : Nat) :
    s.readWindow .rkey o = 0 := by
  have hview : s.rkeyView o = ⟨0, 0, 0, 0⟩ := by
    simp [State.rkeyView, (State.cleared_of_schedule h).1]
  rw [State.readWindow, hview]
  rfl

/-- With TRCNT 0 no byte of TRACE is shown (10_state.md R46). -/
theorem State.readWindow_trace_of_trcnt_zero (h : s.trcnt = 0) (o : Nat) :
    s.readWindow .trace o = 0 := by
  have hview : ∀ i, s.traceView i = 0 := by simp [State.traceView, h]
  simp only [State.readWindow, hview]
  rfl

/-- The word at a mapped MSG address lies inside the buffer, whose size is a multiple of 16. -/
theorem State.msg_word_inside {a : BitVec 20} {o : Nat} (h : locate s.msgBytes a = some (.msg, o)) :
    o + 3 < s.msgBytes := by
  obtain ⟨haligned, r, hr, hcovers, hwindow, hoffset⟩ := covers_of_locate h
  have hsize : s.msgBytes % 16 = 0 := Nat.mul_mod_right _ _
  revert r
  simp only [addressMap, Region.Covers, List.forall_mem_cons, List.not_mem_nil,
    false_implies, true_implies, implies_true, and_true, true_and, reduceCtorEq]
  omega

theorem State.readWindow_msg_zero {a : BitVec 20} {o : Nat}
    (h : locate s.msgBytes a = some (.msg, o)) (hmsg : ∀ i, i < s.msgBytes → s.msgByte i = 0) :
    s.readWindow .msg o = 0 := by
  have hinside := State.msg_word_inside h
  rw [State.readWindow, hmsg o (by omega), hmsg (o + 1) (by omega), hmsg (o + 2) (by omega),
    hmsg (o + 3) hinside]
  rfl

theorem State.errCode_of_accepted (hok : s.StatusOk) (hbusy : s.busy = true) : s.errCode = 0 := by
  simp [State.errCode, (hok hbusy).2]

/-! ### The completion of a command -/

theorem completesNext_of_busy (hbusy : s.busy = true) (hnext : s.nextEvent = .complete) :
    s.completesNext = true := by
  simp [State.completesNext, hbusy, hnext]

theorem step_of_illegal {e : DecodeError} (hc : s.completesNext = true)
    (hd : decode s.cur = .error e) : step s = .next (s.afterTake.raise .illegalCommand) := by
  obtain ⟨i, -, hlegal, -⟩ | ⟨-, -, -, hstep⟩ | ⟨hevent, -⟩ := step_cases s
  · simp [hd] at hlegal
  · exact hstep
  · simp [hc] at hevent

end

section
variable (s : State)

theorem exec_nop : exec .nop s = .next s.complete := rfl

theorem exec_clear : exec .clear s = .next s.clearData.complete := rfl

/-! ### What CLEAR leaves -/

theorem State.clearData_roundKey (r : Nat) : roundKey s.clearData.rk r = zeroBlock := by
  simp only [roundKey, State.clearData, Vector.getElem?_replicate]
  split <;> rfl

theorem State.clearData_msgByte {o : Nat} (h : o < s.msgBytes) : s.clearData.msgByte o = 0 := by
  simp [State.msgByte, State.clearData, Memory.find_zeroed, h]

theorem State.clearData_traceByte {o : Nat} (h : o < 3 * s.msgBytes) :
    s.clearData.traceByte o = 0 := by
  simp [State.traceByte, State.clearData, Memory.find_zeroed, h]

/-- "After CLEAR every host-readable byte of every window reads 0x00" (45_system.md R353). -/
theorem State.clear_readWindow {a : BitVec 20} {w : Window} {o : Nat}
    (h : locate s.msgBytes a = some (w, o)) (hdata : w.isData = true) :
    s.clearData.complete.readWindow w o = 0 := by
  cases w with
  | key => exact State.readWindow_key_zero rfl o
  | iv => exact State.readWindow_iv_zero rfl o
  | state => exact State.readWindow_state_zero rfl o
  | rkey => exact State.readWindow_rkey_of_no_schedule rfl o
  | msg => exact State.readWindow_msg_zero h fun _ => s.clearData_msgByte
  | trace => exact State.readWindow_trace_of_trcnt_zero rfl o
  | _ => cases hdata

theorem State.clear_busRead {a : BitVec 20} (hmapped : ∃ w o, locate s.msgBytes a = some (w, o))
    (hdata : 0x100 ≤ a.toNat) : s.clearData.complete.busRead a = ⟨0, false⟩ := by
  obtain ⟨w, o, hloc⟩ := hmapped
  have hw : w.isData = true := (isData_iff_of_locate hloc).mpr hdata
  have hread := State.busRead_of_mapped (s := s.clearData.complete) hloc
  rwa [State.complete_busy, Bool.false_and, if_neg Bool.false_ne_true,
    s.clear_readWindow hloc hw] at hread

theorem State.clear_cfgWord :
    s.clearData.complete.cfgWord = if s.traceEn then 0x00010000 else 0 := by
  change 0#15 ++ BitVec.ofBool s.traceEn ++ 0#8 ++ 0#8 = _
  cases s.traceEn <;> rfl

theorem State.clear_msgLenWord : s.clearData.complete.msgLenWord = 0 := by
  change 0#16 ++ 0#16 = (0 : Word)
  rfl

theorem State.clear_blkCntWord : s.clearData.complete.blkCntWord = 0 := by
  change 0#16 ++ 0#16 = (0 : Word)
  rfl

theorem State.clear_statusWord (herr : s.errCode = 0) :
    s.clearData.complete.statusWord = if s.werr then 0x0000000A else 0x00000002 := by
  change 0#12 ++ 0#4 ++ 0#4 ++ s.errCode ++ 0#3 ++ 0#1 ++ BitVec.ofBool s.werr ++
    BitVec.ofBool (s.errCode != 0) ++ 1#1 ++ 0#1 = _
  rw [herr]
  cases s.werr <;> rfl

end

/-! ### The statements -/

/-- Settles O43: every register and buffer CLEAR writes holds zeros, and a window shows one of them, or is
hidden because no schedule is held or TRCNT is 0. -/
theorem clearCommand : Obligations.ClearCommand := by
  refine ⟨rfl, fun s => ⟨s.clearData.complete, exec_clear s, fun j _ => ?key, fun j _ => ?blocks,
    fun r j _ _ => ?rk, fun o => s.clearData_msgByte, fun o => s.clearData_traceByte,
    fun a haligned hwindow => ?windows, s.clear_msgLenWord, s.clear_blkCntWord, rfl, rfl,
    s.clear_cfgWord, fun hok hbusy => ?status, rfl⟩⟩
  case key => exact State.keyByte_of_key_zero rfl j
  case blocks => exact ⟨byte_zeroBlock j, byte_zeroBlock j⟩
  case rk => rw [State.complete_rk, s.clearData_roundKey, byte_zeroBlock]
  case windows =>
    exact s.clear_busRead (exists_locate_iff.mpr ⟨haligned, .inr hwindow⟩) (by omega)
  case status => exact s.clear_statusWord (State.errCode_of_accepted hok hbusy)

/-- Settles O7: the step is a completion, and the word it completes decodes to no command. -/
theorem illegalWordCompletes : Obligations.IllegalWordCompletes := by
  intro s e hbusy hnext hd
  rw [step_of_illegal (completesNext_of_busy hbusy hnext) hd, State.raise_frame]
  rfl

/-- Settles O42: NOP is `complete()` alone, which keeps the error code acceptance left at 0. -/
theorem nopCommand : Obligations.NopCommand := by
  refine ⟨rfl, fun s => ⟨s.complete, exec_nop s, s.complete_frame, ?irq, State.errCode_of_accepted⟩⟩
  case irq => exact Bool.true_and _

end Machine

end Sys2Proof
end

section
/-! Proofs about reset: the step of a reset event (70_reset_and_hazards.md R410), what the bus shows right
after it, and the statement ResetValues (R411). -/

namespace Sys2Proof.Machine

open Sys2Proof

/-- The host finds MSG only in its own address range (20_memory.md R93). -/
theorem msg_range_of_locate {msgBytes : Nat} {a : BitVec 20} {o : Nat}
    (h : locate msgBytes a = some (.msg, o)) :
    0x10000 ≤ a.toNat ∧ a.toNat < 0x10000 + msgBytes := by
  obtain ⟨-, r, hr, hcovers, hwindow, -⟩ := covers_of_locate h
  revert r
  simp +contextual [addressMap, Region.Covers]

/-- A register reads as the word it holds, whether the core is busy or not (20_memory.md R98). -/
theorem State.busRead_register_eq {s : State} {a : BitVec 20} {w : Window} {o : Nat} {d : Word}
    (h : locate s.msgBytes a = some (w, o)) (hw : w.isData = false) (hword : s.readWindow w o = d) :
    s.busRead a = ⟨d, false⟩ := by
  rw [State.busRead_register h hw, hword]

/-- A reset event is taken whatever the core was doing, a running command included
(70_reset_and_hazards.md R410). -/
theorem step_of_pending_reset {s : State} {rest : List Event} (h : s.pending = .reset :: rest) :
    step s = .next (State.afterReset s.msgUnits (s.resets + 1) s.entropy rest) := by
  have hnext : s.nextEvent = .reset := by rw [State.nextEvent, h]
  have hidle : s.completesNext = false := by simp [State.completesNext, hnext]
  rw [step, hidle, if_neg Bool.false_ne_true, hnext, State.applyEvent, State.applyReset, State.afterTake, h,
    List.tail_cons]

/-! ### The state after a reset -/

section
variable (units : Fin 2048) (epoch : Nat) (entropy : Entropy) (pending : List Event)

theorem State.afterReset_statusWord : (State.afterReset units epoch entropy pending).statusWord = 0 := by
  simp [State.afterReset, State.statusWord, State.nr, State.errCode, State.err, State.keyValid]

theorem State.afterReset_cfgWord : (State.afterReset units epoch entropy pending).cfgWord = 0 := by
  simp [State.afterReset, State.cfgWord]

theorem State.afterReset_msgLenWord : (State.afterReset units epoch entropy pending).msgLenWord = 0 := by
  simp [State.afterReset, State.msgLenWord]

theorem State.afterReset_irqEnWord : (State.afterReset units epoch entropy pending).irqEnWord = 0 := by
  simp [State.afterReset, State.irqEnWord]

theorem State.afterReset_blkCntWord : (State.afterReset units epoch entropy pending).blkCntWord = 0 := by
  simp [State.afterReset, State.blkCntWord]

/-- Every data window but MSG reads 0 after a reset; MSG has no reset value (70_reset_and_hazards.md R413). -/
theorem State.afterReset_readWindow {w : Window} (hdata : w.isData = true) (hmsg : w ≠ .msg) (o : Nat) :
    (State.afterReset units epoch entropy pending).readWindow w o = 0 := by
  cases w with
  | key => exact State.readWindow_key_zero rfl o
  | iv => exact State.readWindow_iv_zero rfl o
  | state => exact State.readWindow_state_zero rfl o
  | rkey => exact State.readWindow_rkey_of_no_schedule rfl o
  | trace => exact State.readWindow_trace_of_trcnt_zero rfl o
  | msg => exact absurd rfl hmsg
  | _ => cases hdata

/-- The address ranges of those windows, as the host reads them (20_memory.md R93). -/
theorem State.afterReset_busRead {a : BitVec 20}
    (hmapped : ∃ w o, locate (State.afterReset units epoch entropy pending).msgBytes a = some (w, o))
    (hdata : 0x100 ≤ a.toNat) (hoff : a.toNat < 0x10000 ∨ 0x20000 ≤ a.toNat) :
    (State.afterReset units epoch entropy pending).busRead a = ⟨0, false⟩ := by
  obtain ⟨w, o, hloc⟩ := hmapped
  have hw : w.isData = true := (isData_iff_of_locate hloc).mpr hdata
  have hmsg : w ≠ .msg := by
    rintro rfl
    have hrange := msg_range_of_locate hloc
    have hsize := (State.afterReset units epoch entropy pending).msgBytes_le
    omega
  rw [State.busRead_of_mapped hloc, State.afterReset_readWindow units epoch entropy pending hw hmsg,
    ite_self]

/-- The table of 70_reset_and_hazards.md R411, for every buffer size, reset, source and list of events. -/
theorem State.afterReset_hasResetValues :
    (State.afterReset units epoch entropy pending).HasResetValues := by
  have hstatus := State.afterReset_statusWord units epoch entropy pending
  refine ⟨State.busRead_register_eq (locate_id _) rfl rfl, State.busRead_register_eq (locate_cmd _) rfl rfl,
    hstatus, State.busRead_register_eq (locate_status _) rfl hstatus,
    State.busRead_register_eq (locate_cfg _) rfl (State.afterReset_cfgWord ..),
    State.busRead_register_eq (locate_msgLen _) rfl (State.afterReset_msgLenWord ..),
    State.busRead_register_eq (locate_irqEn _) rfl (State.afterReset_irqEnWord ..),
    State.busRead_register_eq (locate_blkCnt _) rfl (State.afterReset_blkCntWord ..),
    State.busRead_register_eq (locate_param _) rfl rfl, fun j _ => State.keyByte_of_key_zero rfl j,
    fun j _ => ⟨byte_zeroBlock j, byte_zeroBlock j⟩, fun a haligned hwindow => ?windows,
    rfl, rfl, rfl, rfl⟩
  case windows =>
    exact State.afterReset_busRead units epoch entropy pending
      (exists_locate_iff.mpr ⟨haligned, by omega⟩) (by omega) (by omega)

end

/-! ### The statement -/

/-- Settles O54: a reset event leaves `State.afterReset` beside the events to come, and the machine starts in
such a state. -/
theorem resetValues : Obligations.ResetValues := by
  refine ⟨fun s rest h => ?event, State.afterReset_hasResetValues _ _ _ _⟩
  case event =>
    exact ⟨_, step_of_pending_reset h, rfl, rfl, State.afterReset_hasResetValues _ _ _ _⟩

end Sys2Proof.Machine
end

section
/-! Proofs about the encoding: a command's word and its fields, the two directions between words and
commands, and the table of match and mask (30_encoding.md R130–R136). -/

namespace Sys2Proof

/-! ### The fields of a word -/

/-- Every command's word has the command's opcode and round index in their fields, and zeros elsewhere. -/
theorem encode_fields (i : Instr) :
    opField (encode i) = i.opcode ∧ rkField (encode i) = i.rkBits ∧ reservedField (encode i) = 0 := by
  cases i with
  | addRoundKey rk => exact Laws.EncodingFields.addRoundKey rk
  | _ => decide

/-- A word is its three fields put together (30_encoding.md R130). -/
theorem word_eq_fields (w : Word) : reservedField w ++ rkField w ++ opField w = w := by
  apply BitVec.eq_of_getLsbD_eq
  intro j hj
  simp only [reservedField, rkField, opField, BitVec.getLsbD_append, BitVec.getLsbD_extractLsb']
  by_cases hop : j < 8
  · simp [hop]
  · by_cases hrk : j < 12
    · simp [hop, show j - 8 < 4 by omega, show 8 + (j - 8) = j by omega]
    · simp [hop, show ¬ j - 8 < 4 by omega, show j - 8 - 4 < 20 by omega,
        show 12 + (j - 8 - 4) = j by omega]

/-- The round index the decoder reads from a word, kept by ADDROUNDKEY alone. -/
def Instr.withRoundIndex (rk : Nat) : Instr → Instr
  | .addRoundKey _ => .addRoundKey rk
  | i => i

/-- A command's opcode selects the command, with the round index of the word. -/
theorem decodeOp_opcode (i : Instr) (rk : Nat) : decodeOp i.opcode rk = .ok (i.withRoundIndex rk) := by
  cases i <;> rfl

/-- An opcode that selects a command is that command's opcode (30_encoding.md R131). -/
theorem opcode_of_decodeOp {op : BitVec 8} {rk : Nat} {i : Instr} (h : decodeOp op rk = .ok i) :
    op = i.opcode ∧ i.withRoundIndex rk = i := by
  unfold decodeOp at h
  split at h <;> cases h <;> exact ⟨rfl, rfl⟩

/-- The three checks of `decode` a legal word passes (30_encoding.md R135). -/
theorem decode_eq_ok_iff {w : Word} {i : Instr} : decode w = .ok i ↔
    reservedField w = 0 ∧ (rkField w = 0 ∨ opField w = 0x07) ∧
      decodeOp (opField w) (rkField w).toNat = .ok i := by
  unfold decode
  by_cases hreserved : reservedField w ≠ 0#20
  · simp [hreserved]
  · by_cases hrk : rkField w ≠ 0#4 ∧ opField w ≠ 0x07#8
    · simp [hreserved, hrk]
    · rw [if_neg hreserved, if_neg hrk]
      rw [not_not] at hreserved
      simp only [ne_eq, not_and_or, not_not] at hrk
      simp [hreserved, hrk]

theorem withRoundIndex_rkBits {i : Instr} (h : i.wellFormed = true) :
    i.withRoundIndex i.rkBits.toNat = i := by
  cases i with
  | addRoundKey rk =>
    have hrk : rk ≤ 15 := by simpa [Instr.wellFormed] using h
    simp only [Instr.withRoundIndex, Instr.rkBits, BitVec.toNat_ofNat]
    rw [Nat.mod_eq_of_lt (by omega)]
  | _ => rfl

theorem rkBits_eq_zero_or (i : Instr) : i.rkBits = 0 ∨ i.opcode = 0x07 := by
  cases i with
  | addRoundKey rk => exact .inr rfl
  | _ => exact .inl rfl

/-- Settles O1: the fields of a command's word pass the checks, and its opcode and round index give the
command back. -/
theorem decodeInvertsEncode : Obligations.DecodeInvertsEncode := by
  intro i hwf
  obtain ⟨hop, hrk, hreserved⟩ := encode_fields i
  rw [decode_eq_ok_iff, hop, hrk, decodeOp_opcode, withRoundIndex_rkBits hwf]
  exact ⟨hreserved, rkBits_eq_zero_or i, rfl⟩

/-! ### From a word to its command -/

/-- The round index of a decoded command is the RK field of its word (30_encoding.md R132). -/
theorem rkBits_of_decode {w : Word} {i : Instr} (h : decode w = .ok i) :
    i.wellFormed = true ∧ i.rkBits = rkField w := by
  obtain ⟨-, hrk, hop⟩ := decode_eq_ok_iff.mp h
  obtain ⟨hopcode, hindex⟩ := opcode_of_decodeOp hop
  cases i with
  | addRoundKey rk =>
    cases hindex
    refine ⟨?_, by simp [Instr.rkBits]⟩
    have := (rkField w).isLt
    simp only [Instr.wellFormed, decide_eq_true_eq]
    omega
  | _ =>
    refine ⟨rfl, (hrk.resolve_right ?_).symm⟩
    rw [hopcode]
    decide

/-- Settles O2: the three fields of a legal word are those of its command's own word. -/
theorem encodeInvertsDecode : Obligations.EncodeInvertsDecode := by
  intro w i h
  obtain ⟨hwf, hrk⟩ := rkBits_of_decode h
  obtain ⟨hreserved, -, hop⟩ := decode_eq_ok_iff.mp h
  refine ⟨hwf, ?_⟩
  have hfields := word_eq_fields w
  rwa [hreserved, ← hrk, (opcode_of_decodeOp hop).1] at hfields

/-! ### The table of match and mask -/

/-- The row of a command in the table of 30_encoding.md R134. -/
def Instr.row : Instr → EncodingRow
  | .addRoundKey _ => ⟨"ADDROUNDKEY", 0x00000007, 0xFFFFF0FF⟩
  | i => ⟨i.mnemonic, encode i, 0xFFFFFFFF⟩

@[simp] theorem mnemonic_withRoundIndex (i : Instr) (rk : Nat) :
    (i.withRoundIndex rk).mnemonic = i.mnemonic := by
  cases i <;> rfl

@[simp] theorem row_withRoundIndex (i : Instr) (rk : Nat) : (i.withRoundIndex rk).row = i.row := by
  cases i <;> rfl

theorem row_mnemonic (i : Instr) : i.row.mnemonic = i.mnemonic := by
  cases i <;> rfl

theorem exists_withRoundIndex_eq (i : Instr) : ∃ rk, i.withRoundIndex rk = i := by
  cases i with
  | addRoundKey rk => exact ⟨rk, rfl⟩
  | _ => exact ⟨0, rfl⟩

/-- The rows of the table are the rows of the commands, whatever ADDROUNDKEY's round index. -/
theorem encodingTable_eq : encodingTable = [Instr.nop, .subBytes, .invSubBytes, .shiftRows, .invShiftRows,
    .mixColumns, .invMixColumns, .addRoundKey 0, .keyExpand, .genKey, .genIv, .encBlock, .decBlock, .cbcEnc,
    .cbcDec, .pad, .unpad, .clear].map Instr.row := by decide

theorem row_mem_encodingTable (i : Instr) : i.row ∈ encodingTable := by
  cases i with
  | addRoundKey rk =>
    change (Instr.addRoundKey 0).row ∈ encodingTable
    decide
  | _ => decide

theorem exists_row_of_mem {row : EncodingRow} (h : row ∈ encodingTable) : ∃ i : Instr, i.row = row := by
  rw [encodingTable_eq] at h
  obtain ⟨i, -, hi⟩ := List.mem_map.mp h
  exact ⟨i, hi⟩

/-- ADDROUNDKEY's mask drops the RK field and keeps the other two (30_encoding.md R134). -/
theorem addRoundKey_fields_of_masked {w : Word} (h : w &&& 0xFFFFF0FF = 0x00000007) :
    reservedField w = 0 ∧ opField w = 0x07 := by
  have hreserved : reservedField (w &&& 0xFFFFF0FF) = reservedField w &&& 0xFFFFF :=
    BitVec.extractLsb'_and
  have hop : opField (w &&& 0xFFFFF0FF) = opField w &&& 0xFF := BitVec.extractLsb'_and
  rw [h] at hreserved hop
  rw [show (0xFFFFF : BitVec 20) = BitVec.allOnes 20 from rfl, BitVec.and_allOnes] at hreserved
  rw [show (0xFF : BitVec 8) = BitVec.allOnes 8 from rfl, BitVec.and_allOnes] at hop
  exact ⟨hreserved.symm, hop.symm⟩

/-- A command other than ADDROUNDKEY has one word, and its row admits that word alone. -/
theorem row_admits_iff_eq_encode {i : Instr} (h : ∀ rk, i ≠ .addRoundKey rk) (w : Word) :
    i.row.admits w = true ↔ w = encode i := by
  have hrow : i.row.matchWord = encode i ∧ i.row.mask = BitVec.allOnes 32 := by
    cases i with
    | addRoundKey rk => exact absurd rfl (h rk)
    | _ => exact ⟨rfl, rfl⟩
  rw [EncodingRow.admits, beq_iff_eq, hrow.1, hrow.2, BitVec.and_allOnes]

/-- The words of a command's row are those that decode to the command, with any round index. -/
theorem row_admits_iff (i : Instr) (w : Word) :
    i.row.admits w = true ↔ ∃ rk, decode w = .ok (i.withRoundIndex rk) := by
  by_cases h : ∃ rk, i = .addRoundKey rk
  · obtain ⟨_, rfl⟩ := h
    rw [EncodingRow.admits, beq_iff_eq]
    constructor
    · intro hw
      obtain ⟨hreserved, hop⟩ := addRoundKey_fields_of_masked hw
      refine ⟨(rkField w).toNat, decode_eq_ok_iff.mpr ⟨hreserved, .inr hop, ?_⟩⟩
      rw [hop]
      rfl
    · rintro ⟨rk, hd⟩
      obtain ⟨-, rfl⟩ := encodeInvertsDecode w _ hd
      simp only [Instr.row, Instr.withRoundIndex, encode, Instr.rkBits, Instr.opcode]
      generalize BitVec.ofNat 4 rk = r
      decide +revert
  · rw [not_exists] at h
    have hindex : ∀ rk, i.withRoundIndex rk = i := by
      cases i with
      | addRoundKey rk => exact absurd rfl (h rk)
      | _ => exact fun _ => rfl
    simp only [row_admits_iff_eq_encode h, hindex, exists_const]
    constructor
    · rintro rfl
      exact decodeInvertsEncode i (by rw [← hindex 0]; cases i <;> rfl)
    · exact fun hd => (encodeInvertsDecode w i hd).2.symm

/-- Settles O3: the words of a row are those of its command, so a decoded word lies in the row of its command
and in no other. -/
theorem decoderFollowsEncodingTable : Obligations.DecoderFollowsEncodingTable := by
  refine ⟨fun w row hrow hw => ?inRow, fun w rk hd => ?operand, fun w hnone => ?noRow,
    fun w r1 r2 h1 h2 hw1 hw2 => ?oneRow⟩
  case inRow =>
    obtain ⟨i, rfl⟩ := exists_row_of_mem hrow
    obtain ⟨rk, hd⟩ := (row_admits_iff i w).mp hw
    exact ⟨_, hd, by rw [mnemonic_withRoundIndex, row_mnemonic]⟩
  case operand =>
    obtain ⟨hwf, hrk⟩ := rkBits_of_decode hd
    have hindex : rk = (rkField w).toNat := by
      rw [← hrk]
      have hrange : rk ≤ 15 := by simpa [Instr.wellFormed] using hwf
      simp only [Instr.rkBits, BitVec.toNat_ofNat]
      omega
    exact hindex
  case noRow =>
    cases hd : decode w with
    | error e => exact ⟨e, rfl⟩
    | ok i =>
      obtain ⟨rk, hi⟩ := exists_withRoundIndex_eq i
      have hin : i.row.admits w = true := (row_admits_iff i w).mpr ⟨rk, by rw [hd, hi]⟩
      simp [hnone _ (row_mem_encodingTable i)] at hin
  case oneRow =>
    obtain ⟨i, rfl⟩ := exists_row_of_mem h1
    obtain ⟨j, rfl⟩ := exists_row_of_mem h2
    obtain ⟨rk1, hd1⟩ := (row_admits_iff i w).mp hw1
    obtain ⟨rk2, hd2⟩ := (row_admits_iff j w).mp hw2
    have hsame : i.withRoundIndex rk1 = j.withRoundIndex rk2 := Except.ok.inj (hd1.symm.trans hd2)
    rw [← row_withRoundIndex i rk1, hsame, row_withRoundIndex]

/-- Settles O5: each word is decoded by evaluation. -/
theorem sampleWordsDecode : Obligations.SampleWordsDecode := by
  unfold Obligations.SampleWordsDecode
  decide

end Sys2Proof
end

section
/-! Proofs about a command as a whole: the checks it makes, what it leaves once they pass and its bytes have
arrived, and its three outcomes: an error, a hold, or an end (45_system.md R351, 60_exceptions.md R372–R374,
70_reset_and_hazards.md R418). -/

namespace Sys2Proof.Machine

open Sys2Proof

/-! ### The key length -/

/-- The variant CFG.KEYLEN selects; of no meaning for an illegal length. -/
def State.keyVariant (s : State) : Variant := (Variant.ofKeyLen s.keyLen).getD .aes128

theorem State.keyVariant_of_some {s : State} {v : Variant} (h : Variant.ofKeyLen s.keyLen = some v) :
    s.keyVariant = v := by
  simp [State.keyVariant, h]

/-- A legal key length is the number of the variant's key bytes (00_scope.md R6). -/
theorem Variant.ofKeyLen_eq_some_iff {n : BitVec 8} {v : Variant} :
    Variant.ofKeyLen n = some v ↔ n = BitVec.ofNat 8 v.keyBytes := by
  unfold Variant.ofKeyLen
  split_ifs with h16 h24 h32
  · subst h16; cases v <;> decide
  · subst h24; cases v <;> decide
  · subst h32; cases v <;> decide
  · cases v <;> simpa [Variant.keyBytes] using by assumption

theorem Variant.toNat_of_ofKeyLen {n : BitVec 8} {v : Variant} (h : Variant.ofKeyLen n = some v) :
    n.toNat = v.keyBytes := by
  rw [Variant.ofKeyLen_eq_some_iff.mp h]
  cases v <;> rfl

/-- The key check of the table of checks is that of `CheckKey()`. -/
theorem State.keyLenBad_eq (s : State) : s.keyLenBad = (Variant.ofKeyLen s.keyLen).isNone := by
  unfold State.keyLenBad Variant.ofKeyLen
  split_ifs with h16 h24 h32
  · simp [h16]
  · simp [h24]
  · simp [h32]
  · simpa using ⟨h16, h24, h32⟩

theorem State.ofKeyLen_keyVariant {s : State} (h : s.keyLenBad = false) :
    Variant.ofKeyLen s.keyLen = some s.keyVariant := by
  rw [State.keyLenBad_eq] at h
  obtain ⟨v, hv⟩ := Option.isSome_iff_exists.mp (by simpa using h)
  rw [State.keyVariant_of_some hv, hv]

theorem State.keyLenBad_of_some {s : State} {v : Variant} (h : Variant.ofKeyLen s.keyLen = some v) :
    s.keyLenBad = false := by
  rw [State.keyLenBad_eq, h]
  rfl

/-- The round-index check of the table of checks compares with the variant's Nr. -/
theorem State.roundIndexBad_eq {s : State} {v : Variant} (h : Variant.ofKeyLen s.keyLen = some v) (rk : Nat) :
    s.roundIndexBad rk = decide (v.nr < rk) := by
  rw [State.roundIndexBad, Variant.ofKeyLen_eq_some_iff.mp h, Bool.eq_iff_iff, decide_eq_true_iff]
  cases v <;> simp [Variant.keyBytes, Variant.nr]

/-- `CheckKey()` as a check of the table: it raises, or hands on the variant of the key length. -/
theorem State.checkKey_eq (s : State) (rest : Variant → Result) :
    s.checkKey rest = if s.keyLenBad then .next (s.raise .invalidKeyLength) else rest s.keyVariant := by
  cases hbad : s.keyLenBad with
  | true =>
    rw [State.keyLenBad_eq, Option.isNone_iff_eq_none] at hbad
    exact State.checkKey_of_none hbad rest
  | false => exact State.checkKey_of_some (State.ofKeyLen_keyVariant hbad) rest

/-! ### What a command leaves -/

/-- `SelectIV()` when sixteen bytes have arrived for it to draw. -/
def State.takeIv (s : State) : State :=
  { s with iv := Block.ofBytes (s.taken.take 16), taken := s.taken.drop 16 }

/-- The state a command leaves once its checks have passed and its bytes have arrived: the part of its rule
after `-- execute`. -/
def execute (i : Instr) (s : State) : State :=
  match i with
  | .nop => s.complete
  | .subBytes => s.applyStage Sys2Proof.subBytes
  | .invSubBytes => s.applyStage Sys2Proof.invSubBytes
  | .shiftRows => s.applyStage Sys2Proof.shiftRows
  | .invShiftRows => s.applyStage Sys2Proof.invShiftRows
  | .mixColumns => s.applyStage Sys2Proof.mixColumns
  | .invMixColumns => s.applyStage Sys2Proof.invMixColumns
  | .addRoundKey rk =>
    let s1 := s.ensureKey s.keyVariant
    s1.applyStage fun b => Sys2Proof.addRoundKey b (roundKey s1.rk rk)
  | .keyExpand => (s.expand s.keyVariant).complete
  | .genKey =>
    let n := s.keyVariant.keyBytes
    ({ s with
      key := keyOfBytes (s.taken.take n ++ List.replicate (32 - n) 0)
      taken := s.taken.drop n }.invalidate).complete
  | .genIv => ({ s.takeIv with ivLen := 16 } : State).complete
  | .encBlock => (s.ensureKey s.keyVariant).transformBlock State.encrypt
  | .decBlock => (s.ensureKey s.keyVariant).transformBlock State.decrypt
  | .cbcEnc =>
    let s1 := s.ensureKey s.keyVariant
    (if s.ivLen = 0 then s1.takeIv else s1).cbcEncrypt
  | .cbcDec => (s.ensureKey s.keyVariant).cbcDecrypt
  | .pad => (s.writePadding.setMsgLength s.paddedLength).complete
  | .unpad =>
    match unpad (s.memRead 0 s.msgLength) with
    | .error _ => s.raise .invalidPadding
    | .ok (_, n) => (s.setMsgLength (s.msgLength - n)).complete
  | .clear => s.clearData.complete

/-! ### The checks in order -/

/-- A rule that makes checks in order, raising at the first that fails (60_exceptions.md R373). -/
def State.afterChecks (s rest : State) : List (Bool × CmdError) → State
  | [] => rest
  | (fails, e) :: more => if fails then s.raise e else s.afterChecks rest more

theorem State.afterChecks_of_failure {s rest : State} {l : List (Bool × CmdError)} {e : CmdError}
    (h : (l.find? (·.1)).map (·.2) = some e) : s.afterChecks rest l = s.raise e := by
  induction l with
  | nil => cases h
  | cons check more ih =>
    obtain ⟨fails, e'⟩ := check
    cases fails with
    | true =>
      obtain rfl : e' = e := by simpa using h
      rfl
    | false => exact ih (by simpa using h)

theorem State.afterChecks_of_passed {s rest : State} {l : List (Bool × CmdError)}
    (h : (l.find? (·.1)).map (·.2) = none) : s.afterChecks rest l = rest := by
  induction l with
  | nil => rfl
  | cons check more ih =>
    obtain ⟨fails, e'⟩ := check
    cases fails with
    | true => simp at h
    | false => exact ih (by simpa using h)

/-- Once its checks have passed, a command that does not have its bytes holds: nothing changes. -/
def executeOrHold (i : Instr) (s : State) : State :=
  if drawCount i s ≤ s.taken.length then execute i s else s

theorem executeOrHold_of_no_draw {i : Instr} {s : State} (h : drawCount i s = 0) :
    executeOrHold i s = execute i s := by
  rw [executeOrHold, h, if_pos (Nat.zero_le _)]

theorem State.msgLen_ne_iff (s : State) : (s.msgLen != 16) = decide (s.msgLength ≠ 16) := by
  rw [Bool.eq_iff_iff, bne_iff_ne, decide_eq_true_iff]
  exact (BitVec.toNat_inj (y := 16#16)).not.symm

theorem State.drawIv_of_le {s : State} (h : 16 ≤ s.taken.length) : s.drawIv = some s.takeIv := by
  rw [State.drawIv, State.draws_of_le h]
  rfl

theorem State.drawIv_of_lt {s : State} (h : s.taken.length < 16) : s.drawIv = none := by
  rw [State.drawIv, State.draws_of_lt h]

/-- `SelectIV()` after `EnsureKey()`, which leaves IVLEN and the drawn bytes alone. -/
theorem State.selectIv_ensureKey (s : State) (v : Variant) :
    (s.ensureKey v).selectIv =
      if s.ivLen = 0 then if 16 ≤ s.taken.length then some (s.ensureKey v).takeIv else none
      else some (s.ensureKey v) := by
  have hframe := s.ensureKey_frame v
  have hiv : (s.ensureKey v).ivLen = s.ivLen := by rw [hframe]
  have htaken : (s.ensureKey v).taken = s.taken := by rw [hframe]
  rw [State.selectIv, hiv, ← htaken]
  split_ifs with hdraw hready
  · exact State.drawIv_of_le hready
  · exact State.drawIv_of_lt (Nat.not_le.mp hready)
  · rfl

theorem execGenKey_eq_afterChecks (s : State) :
    execGenKey s = .next (s.afterChecks (executeOrHold .genKey s) (checks .genKey s)) := by
  simp only [execGenKey, State.checkKey_eq, checks, State.afterChecks]
  cases hbad : s.keyLenBad with
  | true => rfl
  | false =>
    have hcount : drawCount .genKey s = s.keyVariant.keyBytes :=
      Variant.toNat_of_ofKeyLen (State.ofKeyLen_keyVariant hbad)
    rw [executeOrHold, hcount]
    rcases Nat.lt_or_ge s.taken.length s.keyVariant.keyBytes with hshort | hready
    · rw [State.draws_of_lt hshort, if_neg (Nat.not_le.mpr hshort)]
      rfl
    · rw [State.draws_of_le hready, if_pos hready]
      rfl

theorem execGenIv_eq_executeOrHold (s : State) : execGenIv s = .next (executeOrHold .genIv s) := by
  rw [execGenIv, executeOrHold, show drawCount .genIv s = 16 from rfl]
  rcases Nat.lt_or_ge s.taken.length 16 with hshort | hready
  · rw [State.drawIv_of_lt hshort, if_neg (Nat.not_le.mpr hshort)]
  · rw [State.drawIv_of_le hready, if_pos hready]
    rfl

theorem State.paddedLength_eq (s : State) : s.paddedLength = s.msgLength + (16 - s.msgLength % 16) := rfl

theorem execCbcEnc_eq_afterChecks (s : State) :
    execCbcEnc s = .next (s.afterChecks (executeOrHold .cbcEnc s) (checks .cbcEnc s)) := by
  simp only [execCbcEnc, State.checkKey_eq, checks, State.afterChecks, State.selectIv_ensureKey,
    State.paddedLength_eq, Bool.and_eq_true, bne_iff_ne, decide_eq_true_eq]
  split_ifs with hbad hiv hlong hdraw hready
  · rfl
  · rfl
  · rfl
  · simp only [executeOrHold, drawCount, execute, hdraw, if_true, hready]
  · simp only [executeOrHold, drawCount, hdraw, if_true, if_neg hready]
  · simp only [executeOrHold, drawCount, execute, if_neg hdraw, Nat.zero_le, if_true]

/-- UNPAD's message is not empty after the first check, so the validator's failure is InvalidPadding. -/
theorem execUnpad_eq_afterChecks (s : State) :
    execUnpad s = .next (s.afterChecks (execute .unpad s) (checks .unpad s)) := by
  simp only [execUnpad, checks, State.afterChecks, decide_eq_true_eq, beq_iff_eq]
  split_ifs with hempty hlong
  · rfl
  · rfl
  · have hnonempty : unpad (s.memRead 0 s.msgLength) ≠ .error .emptyInput := by
      rw [ne_eq, unpad_eq_emptyInput_iff, ← List.length_eq_zero_iff, State.memRead_length]
      exact hempty
    rw [execute]
    cases hunpad : unpad (s.memRead 0 s.msgLength) with
    | ok r => rfl
    | error f =>
      cases f with
      | emptyInput => exact absurd hunpad hnonempty
      | invalidPadding => rfl

theorem execPad_eq_afterChecks (s : State) :
    execPad s = .next (s.afterChecks (execute .pad s) (checks .pad s)) := by
  by_cases hlong : s.msgBytes < s.paddedLength
  · have hcheck : decide (s.msgBytes < s.msgLength + (16 - s.msgLength % 16)) = true := decide_eq_true hlong
    simp only [execPad, checks, State.afterChecks, if_pos hlong, hcheck, if_true]
  · have hcheck : decide (s.msgBytes < s.msgLength + (16 - s.msgLength % 16)) = false := decide_eq_false hlong
    simp only [execPad, checks, State.afterChecks, if_neg hlong, hcheck, Bool.false_eq_true, if_false, execute]

/-- The rule of every command: its checks in the order of the table, then the rest. -/
theorem exec_eq_afterChecks (i : Instr) (s : State) :
    exec i s = .next (s.afterChecks (executeOrHold i s) (checks i s)) := by
  cases i with
  | nop | subBytes | invSubBytes | shiftRows | invShiftRows | mixColumns | invMixColumns | clear =>
    rw [executeOrHold_of_no_draw rfl]
    rfl
  | keyExpand =>
    rw [executeOrHold_of_no_draw rfl]
    simp only [exec, execKeyExpand, State.checkKey_eq, checks, State.afterChecks]
    split_ifs <;> rfl
  | addRoundKey rk =>
    rw [executeOrHold_of_no_draw rfl]
    simp only [exec, execAddRoundKey, State.checkKey_eq, checks, State.afterChecks]
    cases hbad : s.keyLenBad with
    | true => rfl
    | false =>
      simp only [State.roundIndexBad_eq (State.ofKeyLen_keyVariant hbad), decide_eq_true_eq]
      split_ifs <;> rfl
  | encBlock | decBlock =>
    rw [executeOrHold_of_no_draw rfl]
    simp only [exec, execEncBlock, execDecBlock, State.singleBlock, State.checkKey_eq, checks, State.afterChecks,
      State.msgLen_ne_iff, decide_eq_true_eq]
    split_ifs <;> rfl
  | genKey => exact execGenKey_eq_afterChecks s
  | genIv => exact execGenIv_eq_executeOrHold s
  | cbcEnc => exact execCbcEnc_eq_afterChecks s
  | cbcDec =>
    rw [executeOrHold_of_no_draw rfl]
    simp only [exec, execCbcDec, State.checkKey_eq, checks, State.afterChecks, Bool.or_eq_true, bne_iff_ne,
      beq_iff_eq, decide_eq_true_eq]
    split_ifs <;> rfl
  | pad =>
    rw [executeOrHold_of_no_draw rfl]
    exact execPad_eq_afterChecks s
  | unpad =>
    rw [executeOrHold_of_no_draw rfl]
    exact execUnpad_eq_afterChecks s

/-! ### The three outcomes -/

section
variable {i : Instr} {s t : State}

/-- The first failing check is the error reported (60_exceptions.md R373). -/
theorem exec_of_failure {e : CmdError} (h : checkFailure i s = some e) : exec i s = .next (s.raise e) := by
  rw [exec_eq_afterChecks, State.afterChecks_of_failure h]

theorem exec_of_ready (hpass : checkFailure i s = none) (hdraw : s.canDraw i) :
    exec i s = .next (execute i s) := by
  rw [exec_eq_afterChecks, State.afterChecks_of_passed hpass, executeOrHold]
  exact congrArg _ (if_pos hdraw)

/-- While bytes are missing the command holds: nothing changes (70_reset_and_hazards.md R418). -/
theorem exec_of_hold (hpass : checkFailure i s = none) (hdraw : ¬ s.canDraw i) : exec i s = .next s := by
  rw [exec_eq_afterChecks, State.afterChecks_of_passed hpass, executeOrHold]
  exact congrArg _ (if_neg hdraw)

/-- All a command can do: report its first failing check, hold while bytes are missing, or run. -/
theorem exec_cases (h : exec i s = .next t) :
    (∃ e, checkFailure i s = some e ∧ t = s.raise e) ∨
      (checkFailure i s = none ∧ ¬ s.canDraw i ∧ t = s) ∨
        (checkFailure i s = none ∧ s.canDraw i ∧ t = execute i s) := by
  cases hcheck : checkFailure i s with
  | some e => exact .inl ⟨e, rfl, Host.Outcome.next.inj (h.symm.trans (exec_of_failure hcheck))⟩
  | none =>
    by_cases hdraw : s.canDraw i
    · exact .inr (.inr ⟨rfl, hdraw, Host.Outcome.next.inj (h.symm.trans (exec_of_ready hcheck hdraw))⟩)
    · exact .inr (.inl ⟨rfl, hdraw, Host.Outcome.next.inj (h.symm.trans (exec_of_hold hcheck hdraw))⟩)

end

end Sys2Proof.Machine
end

section
/-! Proofs about what each command changes: the two CBC loops in closed form, the frame of every command, and
how one step ends (43_cbc_controller.md R282–R285, 45_system.md R351). -/

namespace Sys2Proof.Machine

open Sys2Proof

/-! ### The buffers after the first turns of a CBC loop -/

/-- Trace record k of the plan, byte by byte (43_cbc_controller.md R287). -/
def ChainPlan.record (p : ChainPlan) (k : Nat) : List Byte :=
  (p.first k).bytes ++ (p.second k).bytes ++ (p.third k).bytes

/-- MSG after the first n turns of the plan. -/
def ChainPlan.msgAfter (p : ChainPlan) (m : Memory) : Nat → Memory
  | 0 => m
  | k + 1 => (p.msgAfter m k).writeBytes (16 * k) (p.stored k).bytes

/-- TRACE after the first n turns of the plan with TRACE_EN = 1. -/
def ChainPlan.traceAfter (p : ChainPlan) (m : Memory) : Nat → Memory
  | 0 => m
  | k + 1 => (p.traceAfter m k).writeBytes (48 * k) (p.record k)

section
variable (p : ChainPlan) {m : Memory} {size n o : Nat}

@[simp] theorem ChainPlan.record_length (k : Nat) : (p.record k).length = 48 := by
  simp [ChainPlan.record]

theorem ChainPlan.msgAfter_wf (h : m.wf size = true) (hn : 16 * n ≤ size) :
    (p.msgAfter m n).wf size = true := by
  induction n with
  | zero => exact h
  | succ k ih => exact Memory.wf_writeBytes _ _ _ (ih (by omega)) (by rw [Block.bytes_length]; omega)

theorem ChainPlan.traceAfter_wf (h : m.wf size = true) (hn : 48 * n ≤ size) :
    (p.traceAfter m n).wf size = true := by
  induction n with
  | zero => exact h
  | succ k ih => exact Memory.wf_writeBytes _ _ _ (ih (by omega)) (by rw [p.record_length]; omega)

/-- A loop leaves the bytes after its last record alone. -/
theorem ChainPlan.traceAfter_find_beyond (h : 48 * n ≤ o) :
    (p.traceAfter m n).find o = m.find o := by
  induction n with
  | zero => rfl
  | succ k ih =>
    rw [ChainPlan.traceAfter, Memory.find_writeBytes_outside _ _ _ _ (by rw [p.record_length]; omega),
      ih (by omega)]

/-- Every byte of the records of a loop has been written. -/
theorem ChainPlan.traceAfter_isSome (h : o < 48 * n) : ((p.traceAfter m n).find o).isSome = true := by
  induction n with
  | zero => omega
  | succ k ih =>
    rw [ChainPlan.traceAfter]
    rcases Nat.lt_or_ge o (48 * k) with hearlier | hlast
    · exact Memory.isSome_find_writeBytes _ _ _ _ (ih hearlier)
    · obtain ⟨j, rfl⟩ := Nat.exists_eq_add_of_le hlast
      rw [Memory.find_writeBytes_inside _ _ _ _ (by rw [p.record_length]; omega)]
      rfl

end

/-- The state after the first n turns of the plan, from state a. -/
def State.afterTurns (a : State) (p : ChainPlan) (n : Nat) : State :=
  { a with
    msg := p.msgAfter a.msg n
    trace := if a.traceEn then p.traceAfter a.trace n else a.trace
    prev := p.prev n }

theorem State.planTurn_afterTurns (a : State) (p : ChainPlan) (k : Nat) :
    (a.afterTurns p k).planTurn p k = a.afterTurns p (k + 1) := by
  have htraceEn : (a.afterTurns p k).traceEn = a.traceEn := rfl
  rw [State.planTurn]
  cases h : a.traceEn with
  | true =>
    rw [State.traceIfEnabled_on _ (htraceEn.trans h)]
    simp only [State.afterTurns, h]
    rfl
  | false =>
    rw [State.traceIfEnabled_off _ (htraceEn.trans h)]
    simp only [State.afterTurns, h]
    rfl

/-- A loop whose turns are those of the plan, in closed form. -/
theorem forBlocks_eq_afterTurns {p : ChainPlan} {a : State} {body : Nat → State → State}
    (h0 : p.prev 0 = a.prev) (hbody : ∀ j t, FollowsPlan p a j t → body j t = t.planTurn p j) (n : Nat) :
    forBlocks body n 0 a = a.afterTurns p n := by
  have hstart : a = a.afterTurns p 0 := by
    simp only [State.afterTurns, ChainPlan.msgAfter, ChainPlan.traceAfter, ite_self, h0]
  have hturn : ∀ j t, 0 ≤ j → j < 0 + n → FollowsPlan p a j t ∧ t = a.afterTurns p j →
      FollowsPlan p a (j + 1) (body j t) ∧ body j t = a.afterTurns p (j + 1) := by
    rintro j t - - ⟨hfollows, heq⟩
    rw [hbody j t hfollows]
    exact ⟨hfollows.planTurn, by rw [heq, State.planTurn_afterTurns]⟩
  have hloop := forBlocks_induct (P := fun j t => FollowsPlan p a j t ∧ t = a.afterTurns p j) n 0 a
    ⟨FollowsPlan.start h0, hstart⟩ hturn
  simpa using hloop.2

theorem forBlocks_cbcEncBlock (a : State) (n : Nat) :
    forBlocks cbcEncBlock n 0 a = a.afterTurns a.encPlan n :=
  forBlocks_eq_afterTurns rfl (fun _ _ => cbcEncBlock_eq_planTurn) n

theorem forBlocks_cbcDecBlock (a : State) (n : Nat) :
    forBlocks cbcDecBlock n 0 a = a.afterTurns a.decPlan n :=
  forBlocks_eq_afterTurns rfl (fun _ _ => cbcDecBlock_eq_planTurn) n

/-! ### How the CBC commands end -/

section
variable (s : State)

/-- The state of CBC_ENC after its loop (43_cbc_controller.md R282). -/
def State.encChained : State :=
  s.writePadding.startChain.afterTurns s.writePadding.startChain.encPlan (s.paddedLength / 16)

/-- The state of CBC_DEC after its loop (43_cbc_controller.md R284). -/
def State.decChained : State := s.startChain.afterTurns s.startChain.decPlan (s.msgLength / 16)

theorem State.cbcEncrypt_eq : s.cbcEncrypt =
    (({ s.encChained.setMsgLength s.paddedLength with ivLen := 0 } : State).setBlockCount
      (s.paddedLength / 16)).complete := by
  rw [State.cbcEncrypt, forBlocks_cbcEncBlock]
  rfl

theorem State.cbcDecrypt_of_ok {m : List Byte} {n : Nat}
    (h : unpad (s.decChained.memRead 0 s.msgLength) = .ok (m, n)) : s.cbcDecrypt =
      ((s.decChained.setMsgLength (s.msgLength - n)).setBlockCount (s.msgLength / 16)).complete := by
  simp only [State.cbcDecrypt, forBlocks_cbcDecBlock]
  rw [show s.startChain.afterTurns s.startChain.decPlan (s.msgLength / 16) = s.decChained from rfl, h]

theorem State.cbcDecrypt_of_error {f : PadFailure}
    (h : unpad (s.decChained.memRead 0 s.msgLength) = .error f) :
    s.cbcDecrypt = s.decChained.decryptFail s.msgLength := by
  simp only [State.cbcDecrypt, forBlocks_cbcDecBlock]
  rw [show s.startChain.afterTurns s.startChain.decPlan (s.msgLength / 16) = s.decChained from rfl, h]

/-- `DecryptFail(L)` as one update (43_cbc_controller.md R285). -/
theorem State.decryptFail_eq (length : Nat) : s.decryptFail length =
    { s with
      msg := s.msg.writeBytes 0 (List.replicate length 0)
      trace := if s.traceEn then s.trace.writeBytes 0 (List.replicate (3 * length) 0) else s.trace
      msgLen := 0, blocks := 0, trcnt := 0, error := some .decryptFailed, busy := false, done := true } := by
  simp only [State.decryptFail, State.memWrite_traceEn]
  cases h : s.traceEn <;> simp [State.memWrite, State.raise, h]

/-- CBC_DEC fails with DecryptFailed, or ends without error (43_cbc_controller.md R284, R285). -/
theorem State.cbcDecrypt_ends :
    s.cbcDecrypt = s.decChained.decryptFail s.msgLength ∨
      ∃ n, s.cbcDecrypt =
        ((s.decChained.setMsgLength (s.msgLength - n)).setBlockCount (s.msgLength / 16)).complete := by
  cases h : unpad (s.decChained.memRead 0 s.msgLength) with
  | error f => exact .inl (s.cbcDecrypt_of_error h)
  | ok r => exact .inr ⟨r.2, s.cbcDecrypt_of_ok h⟩

/-! ### The frames -/

theorem State.encChained_frame : s.encChained =
    { s with msg := s.encChained.msg, trace := s.encChained.trace, prev := s.encChained.prev } := rfl

theorem State.decChained_frame : s.decChained =
    { s with msg := s.decChained.msg, trace := s.decChained.trace, prev := s.decChained.prev } := rfl

theorem State.cbcEncrypt_frame : s.cbcEncrypt =
    { s with
      msg := s.cbcEncrypt.msg, msgLen := s.cbcEncrypt.msgLen, ivLen := 0, blocks := s.cbcEncrypt.blocks
      trcnt := s.cbcEncrypt.trcnt, trace := s.cbcEncrypt.trace, prev := s.cbcEncrypt.prev
      busy := false, done := true } := by
  rw [State.cbcEncrypt_eq, State.encChained_frame]
  generalize s.encChained = t
  rfl

theorem State.cbcDecrypt_frame : s.cbcDecrypt =
    { s with
      msg := s.cbcDecrypt.msg, msgLen := s.cbcDecrypt.msgLen, blocks := s.cbcDecrypt.blocks
      trcnt := s.cbcDecrypt.trcnt, trace := s.cbcDecrypt.trace, prev := s.cbcDecrypt.prev
      error := s.cbcDecrypt.error, busy := false, done := true } := by
  obtain h | ⟨n, h⟩ := s.cbcDecrypt_ends
  · rw [h, State.decryptFail_eq, State.decChained_frame]
  · rw [h, State.decChained_frame]
    generalize s.decChained = t
    rfl

/-- Everything `EnsureKey()` does not touch, for the frame of a command that begins with it. -/
theorem State.transformBlock_frame (f : State → Block → Block) : s.transformBlock f =
    { s with
      msg := (s.transformBlock f).msg, w := (s.transformBlock f).w, busy := false, done := true } := rfl

theorem execute_addRoundKey_frame (rk : Nat) : execute (.addRoundKey rk) s =
    { s with
      stateReg := (execute (.addRoundKey rk) s).stateReg, rk := (s.ensureKey s.keyVariant).rk
      schedule := (s.ensureKey s.keyVariant).schedule, busy := false, done := true } := by
  simp only [execute]
  rw [s.ensureKey_frame s.keyVariant]
  rfl

theorem execute_encBlock_frame : execute .encBlock s =
    { s with
      msg := (execute .encBlock s).msg, w := (execute .encBlock s).w, rk := (s.ensureKey s.keyVariant).rk
      schedule := (s.ensureKey s.keyVariant).schedule, busy := false, done := true } := by
  simp only [execute]
  rw [State.transformBlock_frame, s.ensureKey_frame s.keyVariant]

theorem execute_decBlock_frame : execute .decBlock s =
    { s with
      msg := (execute .decBlock s).msg, w := (execute .decBlock s).w, rk := (s.ensureKey s.keyVariant).rk
      schedule := (s.ensureKey s.keyVariant).schedule, busy := false, done := true } := by
  simp only [execute]
  rw [State.transformBlock_frame, s.ensureKey_frame s.keyVariant]

/-- The state in which CBC_ENC's loop begins to work: the schedule held and the IV selected. -/
def State.ivSelected : State :=
  if s.ivLen = 0 then (s.ensureKey s.keyVariant).takeIv else s.ensureKey s.keyVariant

theorem State.ivSelected_frame : s.ivSelected =
    { s with
      iv := if s.ivLen = 0 then Block.ofBytes (s.taken.take 16) else s.iv
      taken := if s.ivLen = 0 then s.taken.drop 16 else s.taken
      rk := (s.ensureKey s.keyVariant).rk, schedule := (s.ensureKey s.keyVariant).schedule } := by
  rw [State.ivSelected]
  split
  · rw [State.takeIv, s.ensureKey_frame s.keyVariant]
  · rw [← s.ensureKey_frame s.keyVariant]

theorem execute_cbcEnc : execute .cbcEnc s = s.ivSelected.cbcEncrypt := rfl

theorem execute_cbcEnc_frame : execute .cbcEnc s =
    { s with
      msg := (execute .cbcEnc s).msg, msgLen := (execute .cbcEnc s).msgLen
      iv := if s.ivLen = 0 then Block.ofBytes (s.taken.take 16) else s.iv
      ivLen := 0, taken := if s.ivLen = 0 then s.taken.drop 16 else s.taken
      blocks := (execute .cbcEnc s).blocks, trcnt := (execute .cbcEnc s).trcnt
      trace := (execute .cbcEnc s).trace, prev := (execute .cbcEnc s).prev
      rk := (s.ensureKey s.keyVariant).rk, schedule := (s.ensureKey s.keyVariant).schedule
      busy := false, done := true } := by
  rw [execute_cbcEnc, State.cbcEncrypt_frame, State.ivSelected_frame]

theorem execute_cbcDec_frame : execute .cbcDec s =
    { s with
      msg := (execute .cbcDec s).msg, msgLen := (execute .cbcDec s).msgLen
      blocks := (execute .cbcDec s).blocks, trcnt := (execute .cbcDec s).trcnt
      trace := (execute .cbcDec s).trace, prev := (execute .cbcDec s).prev
      error := (execute .cbcDec s).error, rk := (s.ensureKey s.keyVariant).rk
      schedule := (s.ensureKey s.keyVariant).schedule, busy := false, done := true } := by
  simp only [execute]
  rw [State.cbcDecrypt_frame, s.ensureKey_frame s.keyVariant]

/-- UNPAD shortens the message, or finds the padding invalid (44_padding.md R334). -/
theorem execute_unpad_cases :
    (∃ f, unpad (s.memRead 0 s.msgLength) = .error f ∧ execute .unpad s = s.raise .invalidPadding) ∨
      ∃ m n, unpad (s.memRead 0 s.msgLength) = .ok (m, n) ∧
        execute .unpad s = (s.setMsgLength (s.msgLength - n)).complete := by
  simp only [execute]
  cases unpad (s.memRead 0 s.msgLength) with
  | error f => exact .inl ⟨f, rfl, rfl⟩
  | ok r => exact .inr ⟨r.1, r.2, rfl, rfl⟩

/-- Whatever a command does, it ends (BUSY 0, DONE 1), and it leaves CUR, WERR, TRACE_EN, DONE_IE, PARAM, the
source, the events to come and the last answer alone. -/
theorem execute_frame (i : Instr) : ∃ error schedule keyLen ivLen msgLen blocks trcnt key iv stateReg rk msg
    trace w prev taken, execute i s =
      { s with
        error := error, schedule := schedule, keyLen := keyLen, ivLen := ivLen, msgLen := msgLen
        blocks := blocks, trcnt := trcnt, key := key, iv := iv, stateReg := stateReg, rk := rk, msg := msg
        trace := trace, w := w, prev := prev, taken := taken, busy := false, done := true } := by
  cases i with
  | addRoundKey rk => exact ⟨_, _, _, _, _, _, _, _, _, _, _, _, _, _, _, _, execute_addRoundKey_frame s rk⟩
  | encBlock => exact ⟨_, _, _, _, _, _, _, _, _, _, _, _, _, _, _, _, execute_encBlock_frame s⟩
  | decBlock => exact ⟨_, _, _, _, _, _, _, _, _, _, _, _, _, _, _, _, execute_decBlock_frame s⟩
  | cbcEnc => exact ⟨_, _, _, _, _, _, _, _, _, _, _, _, _, _, _, _, execute_cbcEnc_frame s⟩
  | cbcDec => exact ⟨_, _, _, _, _, _, _, _, _, _, _, _, _, _, _, _, execute_cbcDec_frame s⟩
  | unpad =>
    obtain ⟨f, -, h⟩ | ⟨m, n, -, h⟩ := execute_unpad_cases s
    · exact ⟨_, _, _, _, _, _, _, _, _, _, _, _, _, _, _, _, h⟩
    · exact ⟨_, _, _, _, _, _, _, _, _, _, _, _, _, _, _, _, h⟩
  | _ => exact ⟨_, _, _, _, _, _, _, _, _, _, _, _, _, _, _, _, rfl⟩

@[simp] theorem execute_busy (i : Instr) : (execute i s).busy = false := by
  obtain ⟨_, _, _, _, _, _, _, _, _, _, _, _, _, _, _, _, h⟩ := execute_frame s i
  rw [h]

@[simp] theorem execute_done (i : Instr) : (execute i s).done = true := by
  obtain ⟨_, _, _, _, _, _, _, _, _, _, _, _, _, _, _, _, h⟩ := execute_frame s i
  rw [h]

@[simp] theorem execute_werr (i : Instr) : (execute i s).werr = s.werr := by
  obtain ⟨_, _, _, _, _, _, _, _, _, _, _, _, _, _, _, _, h⟩ := execute_frame s i
  rw [h]

@[simp] theorem execute_doneIe (i : Instr) : (execute i s).doneIe = s.doneIe := by
  obtain ⟨_, _, _, _, _, _, _, _, _, _, _, _, _, _, _, _, h⟩ := execute_frame s i
  rw [h]

@[simp] theorem execute_msgBytes (i : Instr) : (execute i s).msgBytes = s.msgBytes := by
  obtain ⟨_, _, _, _, _, _, _, _, _, _, _, _, _, _, _, _, h⟩ := execute_frame s i
  rw [h]
  rfl

/-- A command that ends has used up the bytes it draws (45_system.md R351). -/
theorem execute_taken {i : Instr} (hpass : checkFailure i s = none) :
    (execute i s).taken = s.taken.drop (drawCount i s) := by
  cases i with
  | addRoundKey rk => rw [execute_addRoundKey_frame]; rfl
  | encBlock => rw [execute_encBlock_frame]; rfl
  | decBlock => rw [execute_decBlock_frame]; rfl
  | cbcDec => rw [execute_cbcDec_frame]; rfl
  | cbcEnc =>
    rw [execute_cbcEnc_frame, drawCount]
    dsimp only
    split <;> rfl
  | genKey =>
    have hlegal : s.keyLenBad = false := by simpa [checkFailure, checks] using hpass
    rw [drawCount, Variant.toNat_of_ofKeyLen (State.ofKeyLen_keyVariant hlegal)]
    rfl
  | unpad =>
    obtain ⟨f, -, h⟩ | ⟨m, n, -, h⟩ := execute_unpad_cases s <;> rw [h] <;> rfl
  | _ => rfl

end

/-! ### What one step can be -/

/-- The completion of the running command reports the error e: of an illegal word, or of the first failing
check (45_system.md R355, 60_exceptions.md R373). -/
def State.FailsWith (s : State) (e : CmdError) : Prop :=
  (∃ d, decode s.cur = .error d) ∧ e = .illegalCommand ∨
    ∃ i, decode s.cur = .ok i ∧ checkFailure i s = some e

/-- The completion of the running command runs command i to its end. -/
def State.Runs (s : State) (i : Instr) : Prop :=
  decode s.cur = .ok i ∧ checkFailure i s = none ∧ s.canDraw i

/-- All a step can do: complete the running command with an error, hold it, run it, or take an event from
outside. -/
theorem step_outcomes {s t : State} (h : step s = .next t) :
    (s.completesNext = true ∧ ∃ e, s.afterTake.FailsWith e ∧ t = s.afterTake.raise e) ∨
      (s.completesNext = true ∧ t = s.afterTake) ∨
      (s.completesNext = true ∧ ∃ i, s.afterTake.Runs i ∧ t = execute i s.afterTake) ∨
      (s.completesNext = false ∧ t = s.afterTake.applyEvent s.nextEvent) := by
  obtain ⟨i, hc, hd, hstep⟩ | ⟨d, hc, hd, hstep⟩ | ⟨hc, hstep⟩ := step_cases s
  · obtain ⟨e, hcheck, rfl⟩ | ⟨-, -, rfl⟩ | ⟨hpass, hdraw, rfl⟩ := exec_cases (hstep.symm.trans h)
    · exact .inl ⟨hc, e, .inr ⟨i, hd, hcheck⟩, rfl⟩
    · exact .inr (.inl ⟨hc, rfl⟩)
    · exact .inr (.inr (.inl ⟨hc, i, ⟨hd, hpass, hdraw⟩, rfl⟩))
  · cases hstep.symm.trans h
    exact .inl ⟨hc, _, .inl ⟨⟨d, hd⟩, rfl⟩, rfl⟩
  · cases hstep.symm.trans h
    exact .inr (.inr (.inr ⟨hc, rfl⟩))

/-- A host write answers an error and changes nothing, is dropped because the core is busy, or takes effect
(20_memory.md R96, R97, R99). -/
theorem State.busWrite_cases (s : State) (a : BitVec 20) (d : Word) :
    s.busWrite a d = (s, true) ∨
      (s.busy = true ∧ s.busWrite a d = ({ s with werr := true }, false)) ∨
      ∃ w o, locate s.msgBytes a = some (w, o) ∧ w.writable = true ∧
        (s.busy = false ∨ w.writableWhileBusy = true) ∧ s.busWrite a d = (s.writeWindow w o d, false) := by
  cases hloc : locate s.msgBytes a with
  | none => exact .inl (State.busWrite_of_unmapped d hloc)
  | some found =>
    obtain ⟨w, o⟩ := found
    cases hw : w.writable with
    | false => exact .inl (State.busWrite_readOnly d hloc hw)
    | true =>
      by_cases haccept : s.busy = false ∨ w.writableWhileBusy = true
      · exact .inr (.inr ⟨w, o, rfl, hw, haccept, State.busWrite_accepted d hloc hw haccept⟩)
      · obtain ⟨hbusy, hdrop⟩ := not_or.mp haccept
        rw [Bool.not_eq_false] at hbusy
        exact .inr (.inl ⟨hbusy, State.busWrite_dropped d hloc hw hbusy (by simpa using hdrop)⟩)

end Sys2Proof.Machine
end

section
/-! Proofs that every step keeps the machine's invariants: what each part of a step has to keep, once for every
predicate, then the six invariants (10_state.md R34, R35, R45, R46, R50, R53; 60_exceptions.md R371;
70_reset_and_hazards.md R418). -/

namespace Sys2Proof.Machine

open Sys2Proof

/-! ### One step, once for every predicate -/

/-- Each of the things a step can do keeps the predicate. -/
structure KeptByParts (P : State → Prop) : Prop where
  take : ∀ {s}, P s → P s.afterTake
  raise : ∀ {s e}, P s → s.FailsWith e → P (s.raise e)
  run : ∀ {s i}, P s → s.Runs i → P (execute i s)
  answer : ∀ {s} a, P s → P { s with answer := a }
  dropped : ∀ {s}, P s → P { s with werr := true }
  write : ∀ {s w a o} d, P s → locate s.msgBytes a = some (w, o) →
    s.busy = false ∨ w.writableWhileBusy = true → P (s.writeWindow w o d)
  reset : ∀ units epoch entropy pending, P (State.afterReset units epoch entropy pending)
  offer : ∀ {s} entropy, P s → P { s with entropy := entropy }
  draw : ∀ {s} entropy b, P s → s.entReady = true →
    P { s with entropy := entropy, taken := s.taken ++ [b] }

section
variable {P : State → Prop}

theorem KeptByParts.busWrite (hP : KeptByParts P) {s : State} (h : P s) (a : BitVec 20) (d : Word) :
    P (s.busWrite a d).1 := by
  obtain heq | ⟨-, heq⟩ | ⟨w, o, hloc, -, haccept, heq⟩ := s.busWrite_cases a d <;> rw [heq]
  · exact h
  · exact hP.dropped h
  · exact hP.write d h hloc haccept

theorem KeptByParts.event (hP : KeptByParts P) {s : State} (h : P s) (e : Event) : P (s.applyEvent e) := by
  cases e with
  | busRead a => exact hP.answer _ h
  | busWrite a d => exact hP.answer _ (hP.busWrite h a d)
  | complete => exact h
  | reset => exact hP.reset _ _ _ _
  | entropy byte => exact hP.offer _ h
  | draw =>
    obtain heq | ⟨b, entropy, hready, -, heq⟩ := s.drawEvent_cases
    · rw [State.applyEvent, heq]
      exact h
    · rw [State.applyEvent, heq]
      exact hP.draw entropy b h hready

/-- A predicate that every part of a step keeps is kept by every step. -/
theorem KeptByParts.step (hP : KeptByParts P) {s t : State} (h : P s) (hstep : step s = .next t) : P t := by
  obtain ⟨-, e, hfails, rfl⟩ | ⟨-, rfl⟩ | ⟨-, i, hruns, rfl⟩ | ⟨-, rfl⟩ := step_outcomes hstep
  · exact hP.raise (hP.take h) hfails
  · exact hP.take h
  · exact hP.run (hP.take h) hruns
  · exact hP.event (hP.take h) _

end

/-! ### The key-schedule invariant -/

section
variable {s t : State} {v : Variant}

/-- The invariant reads the schedule, KEYLEN, KEY and RK alone. -/
theorem State.ScheduleOk.congr (h : s.ScheduleOk) (hschedule : t.schedule = s.schedule)
    (hlen : t.keyLen = s.keyLen) (hkey : t.key = s.key) (hrk : t.rk = s.rk) : t.ScheduleOk := by
  simpa only [State.ScheduleOk, hschedule, hlen, hkey, hrk] using h

theorem State.ensureKey_keyLen (s : State) (v : Variant) : (s.ensureKey v).keyLen = s.keyLen := by
  rw [s.ensureKey_frame v]

theorem State.ensureKey_key (s : State) (v : Variant) : (s.ensureKey v).key = s.key := by
  rw [s.ensureKey_frame v]

/-- A command that begins with `EnsureKey()` and leaves the key alone keeps the invariant. -/
theorem State.scheduleOk_of_ensured (h : s.ScheduleOk) (hlegal : Variant.ofKeyLen s.keyLen = some v)
    (hschedule : t.schedule = (s.ensureKey v).schedule) (hlen : t.keyLen = s.keyLen) (hkey : t.key = s.key)
    (hrk : t.rk = (s.ensureKey v).rk) : t.ScheduleOk :=
  (State.ensureKey_scheduleOk h hlegal).1.congr hschedule (hlen.trans (s.ensureKey_keyLen v).symm)
    (hkey.trans (s.ensureKey_key v).symm) hrk

theorem checkFailure_eq_none_iff {i : Instr} :
    checkFailure i s = none ↔ ∀ c ∈ checks i s, c.1 = false := by
  simp [checkFailure]

theorem checkFailure_singleBlock_iff {i : Instr} (hi : i = .encBlock ∨ i = .decBlock) :
    checkFailure i s = none ↔ s.keyLenBad = false ∧ s.msgLength = 16 := by
  have hlen : s.msgLen = 16 ↔ s.msgLength = 16 := (BitVec.toNat_inj (y := 16#16)).symm
  rcases hi with rfl | rfl <;> simp [checkFailure_eq_none_iff, checks, ← hlen]

theorem checkFailure_cbcEnc_iff : checkFailure .cbcEnc s = none ↔
    s.keyLenBad = false ∧ (s.ivLen = 0 ∨ s.ivLen = 16) ∧ s.paddedLength ≤ s.msgBytes := by
  simp only [checkFailure_eq_none_iff, checks, List.forall_mem_cons, List.not_mem_nil, false_implies,
    implies_true, and_true, Bool.and_eq_false_iff, bne_eq_false_iff_eq, decide_eq_false_iff_not, Nat.not_lt]
  rfl

theorem checkFailure_cbcDec_iff : checkFailure .cbcDec s = none ↔ s.keyLenBad = false ∧ s.ivLen = 16 ∧
    (0 < s.msgLength ∧ s.msgLength % 16 = 0) ∧ s.msgLength ≤ s.msgBytes := by
  simp [checkFailure_eq_none_iff, checks, Nat.pos_iff_ne_zero]

theorem checkFailure_pad_iff : checkFailure .pad s = none ↔ s.paddedLength ≤ s.msgBytes := by
  simp [checkFailure_eq_none_iff, checks, State.paddedLength_eq]

theorem checkFailure_unpad_iff :
    checkFailure .unpad s = none ↔ 0 < s.msgLength ∧ s.msgLength ≤ s.msgBytes := by
  simp [checkFailure_eq_none_iff, checks, Nat.pos_iff_ne_zero]

/-- A command that uses the schedule runs only with a legal key length (41_key_schedule.md R206). -/
theorem State.ofKeyLen_of_passed {i : Instr} (hpass : checkFailure i s = none)
    (huses : usesSchedule i = true) : Variant.ofKeyLen s.keyLen = some s.keyVariant := by
  rw [checkFailure_eq_none_iff] at hpass
  refine State.ofKeyLen_keyVariant (hpass (_, .invalidKeyLength) ?_)
  cases i with
  | addRoundKey _ | keyExpand | encBlock | decBlock | cbcEnc | cbcDec => exact List.mem_cons_self
  | _ => cases huses

theorem execute_scheduleOk {i : Instr} (h : s.ScheduleOk) (hpass : checkFailure i s = none) :
    (execute i s).ScheduleOk := by
  have hlegal := State.ofKeyLen_of_passed hpass
  cases i with
  | addRoundKey rk =>
    rw [execute_addRoundKey_frame]
    exact State.scheduleOk_of_ensured h (hlegal rfl) rfl rfl rfl rfl
  | encBlock =>
    rw [execute_encBlock_frame]
    exact State.scheduleOk_of_ensured h (hlegal rfl) rfl rfl rfl rfl
  | decBlock =>
    rw [execute_decBlock_frame]
    exact State.scheduleOk_of_ensured h (hlegal rfl) rfl rfl rfl rfl
  | cbcEnc =>
    rw [execute_cbcEnc_frame]
    exact State.scheduleOk_of_ensured h (hlegal rfl) rfl rfl rfl rfl
  | cbcDec =>
    rw [execute_cbcDec_frame]
    exact State.scheduleOk_of_ensured h (hlegal rfl) rfl rfl rfl rfl
  | keyExpand => exact (State.expand_scheduleOk (hlegal rfl)).congr rfl rfl rfl rfl
  | genKey | clear => exact State.scheduleOk_of_none rfl
  | unpad =>
    obtain ⟨f, -, heq⟩ | ⟨m, n, -, heq⟩ := execute_unpad_cases s <;> rw [heq] <;> exact h.congr rfl rfl rfl rfl
  | _ => exact h.congr rfl rfl rfl rfl

theorem State.writeWindow_scheduleOk (h : s.ScheduleOk) (w : Window) (o : Nat) (d : Word) :
    (s.writeWindow w o d).ScheduleOk := by
  cases w with
  | key => exact State.scheduleOk_of_none rfl
  | cfg =>
    by_cases hlen : d.extractLsb' 0 8 = s.keyLen
    · simp only [State.writeWindow, State.writeCfg, if_pos hlen]
      exact h.congr rfl hlen rfl rfl
    · simp only [State.writeWindow, State.writeCfg, if_neg hlen]
      exact State.scheduleOk_of_none rfl
  | _ => exact h.congr rfl rfl rfl rfl

theorem scheduleOk_keptByParts : KeptByParts State.ScheduleOk where
  take h := h
  raise h _ := h
  run h hruns := execute_scheduleOk h hruns.2.1
  answer _ h := h
  dropped h := h
  write d h _ _ := State.writeWindow_scheduleOk h _ _ d
  reset _ _ _ _ := State.scheduleOk_of_none rfl
  offer _ h := h
  draw _ _ h _ := h

/-- Settles O56: a step leaves KEY, KEYLEN, RK and the schedule alone, drops the schedule, or builds the
schedule of the key it leaves. -/
theorem scheduleInvariantKept : Obligations.ScheduleInvariantKept :=
  fun _ _ h hstep => scheduleOk_keptByParts.step h hstep

end

/-! ### The buffers -/

section
variable {s t : State}

theorem State.BuffersOk.congr (h : s.BuffersOk) (hunits : t.msgUnits = s.msgUnits) (hmsg : t.msg = s.msg)
    (htrace : t.trace = s.trace) : t.BuffersOk := by
  simpa only [State.BuffersOk, State.msgBytes, hunits, hmsg, htrace] using h

theorem State.ensureKey_buffersOk (h : s.BuffersOk) (v : Variant) : (s.ensureKey v).BuffersOk := by
  rw [s.ensureKey_frame v]
  exact h

/-- A store inside MSG keeps the buffers (20_memory.md R103). -/
theorem State.memWrite_buffersOk (h : s.BuffersOk) {o : Nat} {bs : List Byte}
    (hinside : o + bs.length ≤ s.msgBytes) : (s.memWrite o bs).BuffersOk :=
  ⟨Memory.wf_writeBytes bs _ _ h.1 hinside, h.2⟩

theorem State.sixteen_le_msgBytes (s : State) : 16 ≤ s.msgBytes := by
  rw [State.msgBytes]
  omega

theorem State.transformBlock_buffersOk (h : s.BuffersOk) (f : State → Block → Block) :
    (s.transformBlock f).BuffersOk := by
  have hstored := State.memWrite_buffersOk h (o := 0) (bs := (f s (s.memReadBlock 0)).bytes)
    (by simpa using s.sixteen_le_msgBytes)
  exact hstored.congr rfl rfl rfl

theorem State.writePadding_buffersOk (h : s.BuffersOk) (hfits : s.paddedLength ≤ s.msgBytes) :
    s.writePadding.BuffersOk :=
  State.memWrite_buffersOk h (by rwa [padBytes_length])

theorem State.afterTurns_buffersOk (h : s.BuffersOk) (p : ChainPlan) {n : Nat} (hn : 16 * n ≤ s.msgBytes) :
    (s.afterTurns p n).BuffersOk := by
  refine ⟨p.msgAfter_wf h.1 hn, ?_⟩
  change Memory.wf (3 * s.msgBytes) (if s.traceEn then p.traceAfter s.trace n else s.trace) = true
  split
  · exact p.traceAfter_wf h.2 (by omega)
  · exact h.2

theorem State.cbcEncrypt_buffersOk (h : s.BuffersOk) (hfits : s.paddedLength ≤ s.msgBytes) :
    s.cbcEncrypt.BuffersOk := by
  have hchained : s.encChained.BuffersOk :=
    State.afterTurns_buffersOk (s := s.writePadding.startChain) (State.writePadding_buffersOk h hfits) _
      (Nat.le_trans (Nat.mul_div_le _ 16) hfits)
  rw [State.cbcEncrypt_eq]
  exact hchained.congr rfl rfl rfl

theorem State.decryptFail_buffersOk (h : s.BuffersOk) {length : Nat} (hfits : length ≤ s.msgBytes) :
    (s.decryptFail length).BuffersOk := by
  rw [State.decryptFail_eq]
  have hmsg : (s.msg.writeBytes 0 (List.replicate length 0)).wf s.msgBytes = true :=
    Memory.wf_writeBytes _ _ _ h.1 (by simpa using hfits)
  refine ⟨hmsg, ?_⟩
  change Memory.wf (3 * s.msgBytes) (if s.traceEn then _ else s.trace) = true
  split
  · exact Memory.wf_writeBytes _ _ _ h.2 (by simp; omega)
  · exact h.2

theorem State.cbcDecrypt_buffersOk (h : s.BuffersOk) (hfits : s.msgLength ≤ s.msgBytes) :
    s.cbcDecrypt.BuffersOk := by
  have hchained : s.decChained.BuffersOk :=
    State.afterTurns_buffersOk (s := s.startChain) h _ (Nat.le_trans (Nat.mul_div_le _ 16) hfits)
  obtain heq | ⟨n, heq⟩ := s.cbcDecrypt_ends
  · rw [heq]
    exact State.decryptFail_buffersOk hchained hfits
  · rw [heq]
    exact hchained.congr rfl rfl rfl

theorem execute_buffersOk {i : Instr} (h : s.BuffersOk) (hpass : checkFailure i s = none) :
    (execute i s).BuffersOk := by
  have hensured := State.ensureKey_buffersOk h s.keyVariant
  cases i with
  | addRoundKey rk =>
    rw [execute_addRoundKey_frame]
    exact h.congr rfl rfl rfl
  | encBlock | decBlock => exact State.transformBlock_buffersOk hensured _
  | cbcEnc =>
    have hselected : s.ivSelected.BuffersOk := by
      rw [State.ivSelected_frame]
      exact h
    refine State.cbcEncrypt_buffersOk hselected ?_
    change s.ivSelected.paddedLength ≤ s.ivSelected.msgBytes
    rw [State.ivSelected_frame]
    exact (checkFailure_cbcEnc_iff.mp hpass).2.2
  | cbcDec =>
    refine State.cbcDecrypt_buffersOk hensured ?_
    rw [s.ensureKey_frame s.keyVariant]
    exact (checkFailure_cbcDec_iff.mp hpass).2.2.2
  | pad =>
    exact (State.writePadding_buffersOk h (checkFailure_pad_iff.mp hpass)).congr rfl rfl rfl
  | unpad =>
    obtain ⟨f, -, heq⟩ | ⟨m, n, -, heq⟩ := execute_unpad_cases s <;> rw [heq] <;> exact h.congr rfl rfl rfl
  | clear => exact ⟨Memory.wf_zeroed _, Memory.wf_zeroed _⟩
  | _ => exact h.congr rfl rfl rfl

theorem State.writeWindow_buffersOk (h : s.BuffersOk) {w : Window} {a : BitVec 20} {o : Nat} (d : Word)
    (hloc : locate s.msgBytes a = some (w, o)) : (s.writeWindow w o d).BuffersOk := by
  cases w with
  | msg =>
    have hinside := State.msg_word_inside hloc
    exact State.memWrite_buffersOk h (by rw [Quad.bytes_length]; omega)
  | cfg =>
    simp only [State.writeWindow, State.writeCfg]
    split <;> exact h.congr rfl rfl rfl
  | _ => exact h.congr rfl rfl rfl

theorem buffersOk_keptByParts : KeptByParts State.BuffersOk where
  take h := h
  raise h _ := h
  run h hruns := execute_buffersOk h hruns.2.1
  answer _ h := h
  dropped h := h
  write d h hloc _ := State.writeWindow_buffersOk h d hloc
  reset _ _ _ _ := ⟨rfl, rfl⟩
  offer _ h := h
  draw _ _ h _ := h

/-- Settles O58: every store lies inside its buffer, by the checks of the command that makes it or by the
address map. -/
theorem buffersStayInRange : Obligations.BuffersStayInRange :=
  fun _ _ h hstep => buffersOk_keptByParts.step h hstep

end

/-! ### The trace records -/

section
variable {s t : State}

theorem State.TraceOk.congr (h : s.TraceOk) (hunits : t.msgUnits = s.msgUnits) (hblocks : t.blocks = s.blocks)
    (htrcnt : t.trcnt = s.trcnt) (htrace : t.trace = s.trace) : t.TraceOk := by
  simpa only [State.TraceOk, State.msgBytes, hunits, hblocks, htrcnt, htrace] using h

theorem State.traceOk_of_zero (hblocks : t.blocks = 0) (htrcnt : t.trcnt = 0) : t.TraceOk := by
  simp [State.TraceOk, hblocks, htrcnt]

/-- BLKCNT as the two CBC commands leave it, after a loop over n blocks that wrote n records when traced
(43_cbc_controller.md R282, R284). -/
theorem State.setBlockCount_traceOk {n : Nat} (hn : 16 * n ≤ s.msgBytes)
    (hwritten : s.traceEn = true → ∀ o, o < 48 * n → (s.trace.find o).isSome = true) :
    (s.setBlockCount n).TraceOk := by
  have hsize := s.msgBytes_le
  have hcount : (BitVec.ofNat 16 n).toNat = n := by
    rw [BitVec.toNat_ofNat, Nat.mod_eq_of_lt (by omega)]
  refine ⟨?_, ?_, ?_⟩
  · rw [State.setBlockCount_blocks, hcount]
    exact hn
  · rw [State.setBlockCount_trcnt]
    split
    · exact .inr rfl
    · exact .inl rfl
  · rw [State.setBlockCount_trcnt, State.setBlockCount_trace]
    split
    case isTrue hon =>
      rw [hcount]
      exact hwritten hon
    case isFalse =>
      intro o ho
      exact absurd ho (Nat.not_lt_zero o)

/-- The records of a traced loop have all been written. -/
theorem State.afterTurns_written {a : State} {p : ChainPlan} {n : Nat} (h : (a.afterTurns p n).traceEn = true) :
    ∀ o, o < 48 * n → ((a.afterTurns p n).trace.find o).isSome = true := by
  have hon : a.traceEn = true := h
  intro o ho
  simp only [State.afterTurns, hon, if_true]
  exact p.traceAfter_isSome ho

theorem State.cbcEncrypt_traceOk (hfits : s.paddedLength ≤ s.msgBytes) : s.cbcEncrypt.TraceOk := by
  have hblocks : 16 * (s.paddedLength / 16) ≤ s.encChained.msgBytes :=
    Nat.le_trans (Nat.mul_div_le _ 16) hfits
  have hcounted := State.setBlockCount_traceOk hblocks State.afterTurns_written
  rw [State.cbcEncrypt_eq]
  generalize s.encChained = t at hcounted
  exact hcounted.congr rfl rfl rfl rfl

theorem State.cbcDecrypt_traceOk (hfits : s.msgLength ≤ s.msgBytes) : s.cbcDecrypt.TraceOk := by
  have hblocks : 16 * (s.msgLength / 16) ≤ s.decChained.msgBytes :=
    Nat.le_trans (Nat.mul_div_le _ 16) hfits
  have hcounted := State.setBlockCount_traceOk hblocks State.afterTurns_written
  obtain heq | ⟨n, heq⟩ := s.cbcDecrypt_ends
  · rw [heq, State.decryptFail_eq]
    exact State.traceOk_of_zero rfl rfl
  · rw [heq]
    generalize s.decChained = t at hcounted
    exact hcounted.congr rfl rfl rfl rfl

theorem execute_traceOk {i : Instr} (h : s.TraceOk) (hpass : checkFailure i s = none) :
    (execute i s).TraceOk := by
  cases i with
  | addRoundKey rk =>
    rw [execute_addRoundKey_frame]
    exact h.congr rfl rfl rfl rfl
  | encBlock =>
    rw [execute_encBlock_frame]
    exact h.congr rfl rfl rfl rfl
  | decBlock =>
    rw [execute_decBlock_frame]
    exact h.congr rfl rfl rfl rfl
  | cbcEnc =>
    refine State.cbcEncrypt_traceOk ?_
    change s.ivSelected.paddedLength ≤ s.ivSelected.msgBytes
    rw [State.ivSelected_frame]
    exact (checkFailure_cbcEnc_iff.mp hpass).2.2
  | cbcDec =>
    refine State.cbcDecrypt_traceOk ?_
    rw [s.ensureKey_frame s.keyVariant]
    exact (checkFailure_cbcDec_iff.mp hpass).2.2.2
  | unpad =>
    obtain ⟨f, -, heq⟩ | ⟨m, n, -, heq⟩ := execute_unpad_cases s <;> rw [heq] <;>
      exact h.congr rfl rfl rfl rfl
  | clear => exact State.traceOk_of_zero rfl rfl
  | _ => exact h.congr rfl rfl rfl rfl

theorem State.writeWindow_traceOk (h : s.TraceOk) (w : Window) (o : Nat) (d : Word) :
    (s.writeWindow w o d).TraceOk := by
  cases w with
  | cfg =>
    simp only [State.writeWindow, State.writeCfg]
    split <;> exact h.congr rfl rfl rfl rfl
  | _ => exact h.congr rfl rfl rfl rfl

theorem traceOk_keptByParts : KeptByParts State.TraceOk where
  take h := h
  raise h _ := h
  run h hruns := execute_traceOk h hruns.2.1
  answer _ h := h
  dropped h := h
  write d h _ _ := State.writeWindow_traceOk h _ _ d
  reset _ _ _ _ := State.traceOk_of_zero rfl rfl
  offer _ h := h
  draw _ _ h _ := h

/-- Settles O59: BLKCNT is set by a loop that wrote as many records as it counts, or to 0. -/
theorem countedRecordsStayWritten : Obligations.CountedRecordsStayWritten :=
  fun _ _ h hstep => traceOk_keptByParts.step h hstep

end

/-! ### BUSY, DONE and ERRCODE -/

section
variable {s : State}

theorem State.statusOk_of_idle (h : s.busy = false) : s.StatusOk := by
  simp [State.StatusOk, h]

theorem State.writeWindow_statusOk (h : s.StatusOk) (w : Window) (o : Nat) (d : Word) :
    (s.writeWindow w o d).StatusOk := by
  cases w with
  | cmd => exact fun _ => ⟨rfl, rfl⟩
  | status =>
    intro hbusy
    obtain ⟨hdone, herror⟩ := h hbusy
    exact ⟨by simp [State.writeWindow, hdone], herror⟩
  | cfg =>
    simp only [State.writeWindow, State.writeCfg]
    split <;> exact h
  | _ => exact h

theorem statusOk_keptByParts : KeptByParts State.StatusOk where
  take h := h
  raise _ _ := State.statusOk_of_idle rfl
  run _ _ := State.statusOk_of_idle (execute_busy _ _)
  answer _ h := h
  dropped h := h
  write d h _ _ := State.writeWindow_statusOk h _ _ d
  reset _ _ _ _ := State.statusOk_of_idle rfl
  offer _ h := h
  draw _ _ h _ := h

end

/-! ### The drawn bytes -/

section
variable {s t : State}

theorem drawsNeeded_genKey (hd : decode s.cur = .ok .genKey) :
    s.drawsNeeded = if checkFailure .genKey s = none then drawCount .genKey s else 0 := by
  have hcheck : checkFailure .genKey s = none ↔ s.keyLenBad = false := by
    simp [checkFailure_eq_none_iff, checks]
  simp only [State.drawsNeeded, hd, hcheck, State.keyLenBad_eq]
  cases hv : Variant.ofKeyLen s.keyLen with
  | none => rfl
  | some v => exact (Variant.toNat_of_ofKeyLen hv).symm

theorem drawsNeeded_cbcEnc (hd : decode s.cur = .ok .cbcEnc) :
    s.drawsNeeded = if checkFailure .cbcEnc s = none then drawCount .cbcEnc s else 0 := by
  simp only [State.drawsNeeded, hd, checkFailure_cbcEnc_iff, State.keyLenBad_eq, drawCount]
  cases Variant.ofKeyLen s.keyLen with
  | none => simp
  | some v =>
    by_cases hiv : s.ivLen = 0
    · simp [hiv]
    · simp only [hiv, false_and, if_false, ite_self]

/-- `drawsNeeded` in the words of the table of checks: a command that fails a check draws nothing
(70_reset_and_hazards.md R418). -/
theorem State.drawsNeeded_eq {i : Instr} (hd : decode s.cur = .ok i) :
    s.drawsNeeded = if checkFailure i s = none then drawCount i s else 0 := by
  cases i with
  | genKey => exact drawsNeeded_genKey hd
  | cbcEnc => exact drawsNeeded_cbcEnc hd
  | genIv =>
    simp only [State.drawsNeeded, hd]
    rfl
  | _ => simp [State.drawsNeeded, hd, drawCount]

theorem State.drawsNeeded_of_fails {e : CmdError} (h : s.FailsWith e) : s.drawsNeeded = 0 := by
  obtain ⟨⟨d, hd⟩, -⟩ | ⟨i, hd, hcheck⟩ := h
  · simp [State.drawsNeeded, hd]
  · rw [State.drawsNeeded_eq hd, hcheck]
    rfl

theorem State.entropyOk_of_taken_nil (h : t.taken = []) : t.EntropyOk := by
  simp [State.EntropyOk, h]

theorem raise_entropyOk {e : CmdError} (h : s.EntropyOk) (hfails : s.FailsWith e) :
    (s.raise e).EntropyOk := by
  have hlen := h.2
  rw [State.drawsNeeded_of_fails hfails] at hlen
  exact State.entropyOk_of_taken_nil (List.length_eq_zero_iff.mp (Nat.le_zero.mp hlen))

theorem execute_entropyOk {i : Instr} (h : s.EntropyOk) (hruns : s.Runs i) : (execute i s).EntropyOk := by
  obtain ⟨hd, hpass, -⟩ := hruns
  have hlen := h.2
  rw [State.drawsNeeded_eq hd, hpass, if_pos rfl] at hlen
  refine State.entropyOk_of_taken_nil ?_
  rw [execute_taken s hpass, List.drop_eq_nil_iff]
  exact hlen

/-- A write while idle finds no byte drawn; while busy it reaches STATUS or IRQEN, which no draw reads. -/
theorem State.writeWindow_entropyOk (h : s.EntropyOk) {w : Window} (o : Nat) (d : Word)
    (haccept : s.busy = false ∨ w.writableWhileBusy = true) : (s.writeWindow w o d).EntropyOk := by
  rcases haccept with hidle | hwhile
  · have hnone : s.taken = [] := h.1 hidle
    refine State.entropyOk_of_taken_nil ?_
    cases w with
    | cfg =>
      simp only [State.writeWindow, State.writeCfg]
      split <;> exact hnone
    | cmd => rfl
    | _ => exact hnone
  · cases w with
    | status | irqEn => exact h
    | _ => cases hwhile

theorem draw_entropyOk (hready : s.entReady = true) (entropy : Entropy) (b : Byte) :
    State.EntropyOk { s with entropy := entropy, taken := s.taken ++ [b] } := by
  obtain ⟨hbusy, hlt⟩ : s.busy = true ∧ s.taken.length < s.drawsNeeded := by
    simpa [State.entReady] using hready
  refine ⟨fun hidle => ?_, ?_⟩
  · rw [hbusy] at hidle
    cases hidle
  · rw [State.drawsNeeded_update, List.length_append, List.length_singleton]
    exact hlt

theorem entropyOk_keptByParts : KeptByParts State.EntropyOk where
  take h := h
  raise h hfails := raise_entropyOk h hfails
  run h hruns := execute_entropyOk h hruns
  answer _ h := h
  dropped h := h
  write d h _ haccept := State.writeWindow_entropyOk h _ d haccept
  reset _ _ _ _ := State.entropyOk_of_taken_nil rfl
  offer _ h := h
  draw entropy b _ hready := draw_entropyOk hready entropy b

end

/-- Settles O57: a command that ends leaves BUSY 0 and no drawn byte, and one that is accepted starts with DONE 0,
ERRCODE 0 and none; a draw stops at what the command needs. -/
theorem commandInvariantsKept : Obligations.CommandInvariantsKept :=
  ⟨fun _ _ h hstep => statusOk_keptByParts.step h hstep,
    fun _ _ h hstep => entropyOk_keptByParts.step h hstep⟩

/-! ### The error codes -/

section
variable {s : State}

/-- What a command that runs reports: nothing new, or the failure of its padding check
(60_exceptions.md R372, "after"). -/
theorem execute_error (s : State) (i : Instr) :
    (execute i s).error = s.error ∨ (i = .cbcDec ∧ (execute i s).error = some .decryptFailed) ∨
      (i = .unpad ∧ (execute i s).error = some .invalidPadding) := by
  cases i with
  | addRoundKey rk =>
    rw [execute_addRoundKey_frame]
    exact .inl rfl
  | encBlock =>
    rw [execute_encBlock_frame]
    exact .inl rfl
  | decBlock =>
    rw [execute_decBlock_frame]
    exact .inl rfl
  | cbcEnc =>
    rw [execute_cbcEnc_frame]
    exact .inl rfl
  | cbcDec =>
    rw [show execute .cbcDec s = (s.ensureKey s.keyVariant).cbcDecrypt from rfl]
    obtain heq | ⟨n, heq⟩ := (s.ensureKey s.keyVariant).cbcDecrypt_ends
    · rw [heq]
      exact .inr (.inl ⟨rfl, rfl⟩)
    · rw [heq, s.ensureKey_frame s.keyVariant]
      exact .inl rfl
  | unpad =>
    obtain ⟨f, -, heq⟩ | ⟨m, n, -, heq⟩ := execute_unpad_cases s
    · rw [heq]
      exact .inr (.inr ⟨rfl, rfl⟩)
    · rw [heq]
      exact .inl rfl
  | _ => exact .inl rfl

theorem State.FailsWith.ne_invalidHexInput {e : CmdError} (h : s.FailsWith e) : e ≠ .invalidHexInput := by
  obtain ⟨-, rfl⟩ | ⟨i, -, hcheck⟩ := h
  · decide
  · obtain ⟨⟨fails, e'⟩, hfind, rfl⟩ := Option.map_eq_some_iff.mp hcheck
    have hmem := List.mem_of_find?_eq_some hfind
    rintro rfl
    cases i <;> simp [checks] at hmem

theorem errorOk_keptByParts : KeptByParts State.ErrorOk where
  take h := h
  raise _ hfails heq := hfails.ne_invalidHexInput (Option.some.inj heq)
  run {s i} h _ := by
    obtain heq | ⟨-, heq⟩ | ⟨-, heq⟩ := execute_error s i <;> rw [State.ErrorOk, heq]
    · exact h
    · decide
    · decide
  answer _ h := h
  dropped h := h
  write {s w a o} d h _ _ := by
    cases w with
    | cmd => exact nofun
    | cfg =>
      simp only [State.writeWindow, State.writeCfg]
      split <;> exact h
    | _ => exact h
  reset _ _ _ _ := nofun
  offer _ h := h
  draw _ _ h _ := h

/-- Settles O60: no check of the table and no failure after it has code 5, and a named error's code is at most
11. -/
theorem reservedErrorCodesUnused : Obligations.ReservedErrorCodesUnused := by
  refine ⟨fun _ _ h hstep => errorOk_keptByParts.step h hstep, fun s => ?_⟩
  rw [State.errCode]
  split
  case h_1 e _ => cases e <;> decide
  case h_2 => decide

end

/-- Settles O55: the state after reset is idle, holds no schedule, no written byte, no record, no error and no
drawn byte. -/
theorem resetMeetsInvariant : Obligations.ResetMeetsInvariant :=
  ⟨statusOk_keptByParts.reset _ _ _ _, scheduleOk_keptByParts.reset _ _ _ _,
    buffersOk_keptByParts.reset _ _ _ _, traceOk_keptByParts.reset _ _ _ _,
    errorOk_keptByParts.reset _ _ _ _, entropyOk_keptByParts.reset _ _ _ _⟩

end Sys2Proof.Machine
end

section
/-! Proofs about how commands end and what they draw: completion, the error reported, acceptance, the entropy
input, and the events that change nothing (45_system.md R350–R354, 60_exceptions.md R370–R374, R388,
70_reset_and_hazards.md R418, R422). -/

namespace Sys2Proof.Machine

open Sys2Proof

/-! ### Completion -/

section
variable {s t : State} {i : Instr}

theorem step_of_command (hbusy : s.busy = true) (hnext : s.nextEvent = .complete)
    (hd : decode s.cur = .ok i) : step s = exec i s.afterTake := by
  rw [step, completesNext_of_busy hbusy hnext, if_pos rfl, runCommand, State.afterTake_cur, hd]

theorem step_of_event (h : s.completesNext = false) :
    step s = .next (s.afterTake.applyEvent s.nextEvent) := by
  rw [step, h, if_neg Bool.false_ne_true]

/-- A listed event that is no completion is taken whether a command runs or not (20_memory.md R101). -/
theorem step_of_pending {e : Event} {rest : List Event} (hpending : s.pending = e :: rest)
    (he : e ≠ .complete) : step s = .next (({ s with pending := rest } : State).applyEvent e) := by
  have hnext : s.nextEvent = e := by rw [State.nextEvent, hpending]
  have hno : s.completesNext = false := by simp [State.completesNext, hnext, he]
  rw [step_of_event hno, hnext, State.afterTake, hpending, List.tail_cons]

/-- Settles O6: `step` asks for a running command and its completion, and then runs what CUR decodes to. -/
theorem stepRunsDecodedCommand : Obligations.StepRunsDecodedCommand :=
  fun _ _ hbusy hnext hd => step_of_command hbusy hnext hd

/-- Settles O8: CMD is writable, and a busy core does not accept a write to it. -/
theorem commandAcceptance : Obligations.CommandAcceptance := by
  intro s w rest hpending
  have hstep := step_of_pending hpending nofun
  refine ⟨fun hidle => ⟨_, hstep, ?idle, ?code, ?err⟩, fun hbusy => hstep.trans ?busy⟩
  case busy =>
    have hdrop : (({ s with pending := rest } : State).busWrite 0x004 w) =
        ({ s with pending := rest, werr := true }, false) :=
      State.busWrite_dropped w (locate_cmd _) rfl hbusy rfl
    rw [State.applyEvent, hdrop]
  all_goals
    have haccept : (({ s with pending := rest } : State).busWrite 0x004 w) =
        (({ s with pending := rest } : State).accept w, false) :=
      State.busWrite_accepted w (locate_cmd _) rfl (.inl hidle)
    rw [State.applyEvent, haccept]
    rfl

/-! ### The entropy input -/

/-- A draw is waited for exactly while a running command whose checks pass lacks a byte
(70_reset_and_hazards.md R418; log entry 11). -/
theorem State.entReady_iff : s.entReady = true ↔ s.busy = true ∧
    ∃ i, decode s.cur = .ok i ∧ checkFailure i s = none ∧ s.taken.length < drawCount i s := by
  rw [State.entReady, Bool.and_eq_true, decide_eq_true_iff]
  refine and_congr_right fun _ => ?_
  cases hd : decode s.cur with
  | error e => simp [State.drawsNeeded, hd]
  | ok i =>
    rw [State.drawsNeeded_eq hd]
    constructor
    · intro h
      split at h
      case isTrue hpass => exact ⟨i, rfl, hpass, h⟩
      case isFalse => exact absurd h (Nat.not_lt_zero _)
    · rintro ⟨j, hj, hpass, hlt⟩
      cases hj
      rwa [if_pos hpass]

/-- The completion of a command that waits for no byte ends it. -/
theorem runCommand_ends (hbusy : s.busy = true) (hready : s.entReady = false) :
    ∃ t, runCommand s = .next t ∧ t.busy = false ∧ t.done = true := by
  unfold runCommand
  cases hd : decode s.cur with
  | error e => exact ⟨_, rfl, rfl, rfl⟩
  | ok i =>
    cases hcheck : checkFailure i s with
    | some e => exact ⟨_, exec_of_failure hcheck, rfl, rfl⟩
    | none =>
      have hdraw : s.canDraw i := by
        by_contra hshort
        have hwaits := State.entReady_iff.mpr ⟨hbusy, i, hd, hcheck, Nat.not_le.mp hshort⟩
        rw [hready] at hwaits
        cases hwaits
      exact ⟨_, exec_of_ready hcheck hdraw, execute_busy s i, execute_done s i⟩

theorem Entropy.draw_of_flowing {e : Entropy} (h : e.flowing = true) :
    ∃ b e', e.draw = some (b, e') ∧ e'.flowing = true := by
  unfold Entropy.draw
  split
  · exact ⟨_, _, rfl, h⟩
  · exact ⟨_, _, if_pos h, h⟩

theorem Entropy.valid_iff (e : Entropy) : e.valid = true ↔ e.offered ≠ [] ∨ e.flowing = true := by
  unfold Entropy.valid Entropy.draw
  split
  case h_1 b rest hoffered => simp [hoffered]
  case h_2 hoffered =>
    rw [hoffered]
    cases e.flowing <;> simp

theorem State.afterTake_of_pending_nil (h : s.pending = []) : s.afterTake = s := by
  rw [State.afterTake, h, List.tail_nil, ← h]

/-- One step of a core left to itself while its command waits and the source flows: one byte moves. -/
theorem step_draws (hpending : s.pending = []) (hready : s.entReady = true) {b : Byte} {e : Entropy}
    (hdraw : s.entropy.draw = some (b, e)) :
    step s = .next { s with entropy := e, taken := s.taken ++ [b] } := by
  have hvalid : s.entropy.valid = true := by simp [Entropy.valid, hdraw]
  have hnext : s.nextEvent = .draw := by simp [State.nextEvent, hpending, hready, hvalid]
  have hno : s.completesNext = false := by simp [State.completesNext, hnext]
  rw [step_of_event hno, hnext, State.afterTake_of_pending_nil hpending, State.applyEvent, State.drawEvent,
    if_pos hready, State.takeByte, hdraw]

/-- One step of a core left to itself once its command waits for no byte: the command ends. -/
theorem step_ends (hbusy : s.busy = true) (hpending : s.pending = []) (hready : s.entReady = false) :
    ∃ t, step s = .next t ∧ t.busy = false ∧ t.done = true := by
  have hnext : s.nextEvent = .complete := by simp [State.nextEvent, hpending, hready]
  rw [step, completesNext_of_busy hbusy hnext, if_pos rfl, State.afterTake_of_pending_nil hpending]
  exact runCommand_ends hbusy hready

theorem core_run_succ {M : Host.Core} {x y : M.State} (hstep : M.step x = .next y) (n : Nat) :
    M.run (n + 1) x = M.run n y := by
  rw [Host.Core.run, hstep]

/-- With a source that flows and no event to come, a running command has ended after one step per byte it still
waits for and one more (70_reset_and_hazards.md R422). -/
theorem run_ends (n : Nat) (s : State) (hn : s.drawsNeeded - s.taken.length = n) (hbusy : s.busy = true)
    (hpending : s.pending = []) (hflow : s.entropy.flowing = true) :
    ∃ t, Host.Core.run Sys2Proof.core (n + 1) s = .next t ∧ t.busy = false ∧ t.done = true := by
  have hready : s.entReady = decide (s.taken.length < s.drawsNeeded) := by simp [State.entReady, hbusy]
  induction n generalizing s with
  | zero =>
    obtain ⟨t, hstep, hend⟩ := step_ends hbusy hpending (by rw [hready]; simpa using by omega)
    exact ⟨t, core_run_succ (M := Sys2Proof.core) hstep 0, hend⟩
  | succ n ih =>
    obtain ⟨b, e, hdraw, hflow'⟩ := Entropy.draw_of_flowing hflow
    have hstep := step_draws hpending (by rw [hready]; simpa using by omega) hdraw
    obtain ⟨t, hrun, hend⟩ := ih { s with entropy := e, taken := s.taken ++ [b] }
      (by rw [State.drawsNeeded_update, List.length_append, List.length_singleton]; omega) hbusy hpending hflow'
      (by simp [State.entReady, hbusy])
    exact ⟨t, (core_run_succ (M := Sys2Proof.core) hstep (n + 1)).trans hrun, hend⟩

end

/-! ### The statements about completion -/

section
variable {s t : State} {i : Instr}

/-- A command that reports an error, holds or runs has ended, or holds for want of bytes. -/
theorem exec_ended_or_held (h : exec i s = .next t) :
    (t.busy = false ∧ t.done = true) ∨ (t = s ∧ ¬ s.canDraw i) := by
  obtain ⟨e, -, rfl⟩ | ⟨-, hdraw, rfl⟩ | ⟨-, -, rfl⟩ := exec_cases h
  · exact .inl ⟨rfl, rfl⟩
  · exact .inr ⟨rfl, hdraw⟩
  · exact .inl ⟨execute_busy s i, execute_done s i⟩

/-- What no command touches. -/
theorem exec_frame (h : exec i s = .next t) : ∃ busy done error schedule keyLen ivLen msgLen blocks trcnt key iv
    stateReg rk msg trace w prev taken, t =
      { s with
        busy := busy, done := done, error := error, schedule := schedule, keyLen := keyLen, ivLen := ivLen
        msgLen := msgLen, blocks := blocks, trcnt := trcnt, key := key, iv := iv, stateReg := stateReg, rk := rk
        msg := msg, trace := trace, w := w, prev := prev, taken := taken } := by
  obtain ⟨e, -, rfl⟩ | ⟨-, -, rfl⟩ | ⟨-, -, rfl⟩ := exec_cases h
  · exact ⟨_, _, _, _, _, _, _, _, _, _, _, _, _, _, _, _, _, _, rfl⟩
  · exact ⟨_, _, _, _, _, _, _, _, _, _, _, _, _, _, _, _, _, _, rfl⟩
  · obtain ⟨_, _, _, _, _, _, _, _, _, _, _, _, _, _, _, _, heq⟩ := execute_frame s i
    exact ⟨_, _, _, _, _, _, _, _, _, _, _, _, _, _, _, _, _, _, heq⟩

/-- Settles O9: the three outcomes of a command end it or hold it, and a waiting command draws one byte a step
until it has them all. -/
theorem everyCommandEndsByCompletion : Obligations.EveryCommandEndsByCompletion := by
  refine ⟨fun i s => ?_, fun s hbusy hpending hflow => run_ends _ s rfl hbusy hpending hflow⟩
  obtain ⟨t, h⟩ := exec_isNext i s
  refine ⟨t, h, exec_ended_or_held h, ?_⟩
  obtain ⟨_, _, _, _, _, _, _, _, _, _, _, _, _, _, _, _, _, _, rfl⟩ := exec_frame h
  exact ⟨rfl, rfl, rfl, rfl, rfl, rfl, rfl, rfl, rfl⟩

/-- Settles O10: the rule of a command raises its first failing check, or runs what is after `-- execute`. -/
theorem firstFailingCheckIsReported : Obligations.FirstFailingCheckIsReported :=
  fun i s => ⟨fun _ hcheck => exec_of_failure hcheck, fun hpass hdraw =>
    ⟨_, exec_of_ready hpass hdraw, execute_busy s i, execute_done s i, execute_error s i⟩⟩

end

/-! ### The statements about the entropy input -/

section
variable {s t : State} {i : Instr}

/-- A command leaves the drawn bytes alone, or uses up the bytes it draws (45_system.md R351). -/
theorem exec_taken (h : exec i s = .next t) :
    t.taken = s.taken ∨ drawCount i s ≤ s.taken.length ∧ t.taken = s.taken.drop (drawCount i s) := by
  obtain ⟨e, -, rfl⟩ | ⟨-, -, rfl⟩ | ⟨hpass, hdraw, rfl⟩ := exec_cases h
  · exact .inl rfl
  · exact .inl rfl
  · exact .inr ⟨hdraw, execute_taken s hpass⟩

/-- Only GEN_KEY, GEN_IV and CBC_ENC draw (70_reset_and_hazards.md R418). -/
theorem drawCount_eq_zero (hkey : i ≠ .genKey) (hiv : i ≠ .genIv) (hcbc : i ≠ .cbcEnc) (s : State) :
    drawCount i s = 0 := by
  cases i with
  | genKey => exact absurd rfl hkey
  | genIv => exact absurd rfl hiv
  | cbcEnc => exact absurd rfl hcbc
  | _ => rfl

theorem exec_taken_of_no_draw (h : exec i s = .next t) (hcount : drawCount i s = 0) : t.taken = s.taken := by
  rcases exec_taken h with heq | ⟨-, heq⟩
  · exact heq
  · rw [heq, hcount, List.drop_zero]

theorem State.writeWindow_taken_length (s : State) (w : Window) (o : Nat) (d : Word) :
    (s.writeWindow w o d).taken.length ≤ s.taken.length := by
  cases w with
  | cmd => exact Nat.zero_le _
  | cfg =>
    simp only [State.writeWindow, State.writeCfg]
    split <;> exact le_rfl
  | _ => exact le_rfl

theorem State.busWrite_taken_length (s : State) (a : BitVec 20) (d : Word) :
    (s.busWrite a d).1.taken.length ≤ s.taken.length := by
  obtain heq | ⟨-, heq⟩ | ⟨w, o, -, -, -, heq⟩ := s.busWrite_cases a d <;> rw [heq]
  exact s.writeWindow_taken_length w o d

/-- An event that is no draw adds no drawn byte. -/
theorem State.applyEvent_taken_length {e : Event} (he : e ≠ .draw) (s : State) :
    (s.applyEvent e).taken.length ≤ s.taken.length := by
  cases e with
  | busWrite a d => exact s.busWrite_taken_length a d
  | reset => exact Nat.zero_le _
  | draw => exact absurd rfl he
  | _ => exact le_rfl

/-- Only a draw event with `ent_valid` = `ent_ready` = 1 adds a drawn byte (20_memory.md R91). -/
theorem draw_of_taken_length (h : step s = .next t) (hlonger : s.taken.length < t.taken.length) :
    s.nextEvent = .draw ∧ s.entReady = true ∧ s.entropy.valid = true := by
  obtain ⟨-, e, -, rfl⟩ | ⟨-, rfl⟩ | ⟨-, i, hruns, rfl⟩ | ⟨-, rfl⟩ := step_outcomes h
  · exact absurd hlonger (Nat.lt_irrefl _)
  · exact absurd hlonger (Nat.lt_irrefl _)
  · rw [execute_taken _ hruns.2.1, List.length_drop, State.afterTake_taken] at hlonger
    omega
  · by_cases hdraw : s.nextEvent = .draw
    · rw [hdraw, State.applyEvent] at hlonger
      obtain heq | ⟨b, e, hready, hoffers, -⟩ := s.afterTake.drawEvent_cases
      · rw [heq] at hlonger
        exact absurd hlonger (Nat.lt_irrefl _)
      · have hvalid : s.entropy.draw = some (b, e) := hoffers
        exact ⟨hdraw, hready, by simp [Entropy.valid, hvalid]⟩
    · exact absurd (s.afterTake.applyEvent_taken_length hdraw) (Nat.not_le.mpr hlonger)

theorem step_of_draw (hnext : s.nextEvent = .draw) : step s = .next s.afterTake.drawEvent := by
  have hno : s.completesNext = false := by simp [State.completesNext, hnext]
  rw [step_of_event hno, hnext, State.applyEvent]

theorem State.drawEvent_of_waiting {b : Byte} {e : Entropy} (hready : s.entReady = true)
    (hdraw : s.entropy.draw = some (b, e)) :
    s.drawEvent = { s with entropy := e, taken := s.taken ++ [b] } := by
  rw [State.drawEvent, if_pos hready, State.takeByte, hdraw]

theorem State.drawEvent_of_idle (h : s.entReady = false ∨ s.entropy.valid = false) : s.drawEvent = s := by
  obtain heq | ⟨b, e, hready, hdraw, -⟩ := s.drawEvent_cases
  · exact heq
  · simp [hready, Entropy.valid, hdraw] at h

/-- Settles O26: `ent_ready` asks for a running command that lacks a byte, a draw event moves one byte then,
and a completion uses up what its command draws or nothing. -/
theorem entropyDrawsAndHolds : Obligations.EntropyDrawsAndHolds := by
  refine ⟨fun s => State.entReady_iff, fun s hnext => ⟨fun b e hready hdraw => ?draws, fun hidle => ?idles⟩,
    fun s t h hlonger => draw_of_taken_length h hlonger, fun s b rest hpending => ?offers,
    Entropy.drawMany_offered, Entropy.valid_iff, fun i s t h => exec_taken h,
    fun i s t h hkey hiv hcbc => exec_taken_of_no_draw h (drawCount_eq_zero hkey hiv hcbc s),
    fun i s hpass hdraw => exec_of_hold hpass hdraw, fun s rest hpending => ?resets⟩
  case draws =>
    rw [step_of_draw hnext, State.drawEvent_of_waiting (s := s.afterTake) hready hdraw]
    rfl
  case idles =>
    rw [step_of_draw hnext, State.drawEvent_of_idle (s := s.afterTake) hidle]
    rfl
  case offers => exact step_of_pending hpending nofun
  case resets => exact ⟨_, step_of_pending_reset hpending, rfl, rfl⟩

end

/-! ### Events -/

section
variable {s : State}

/-- A completion or a draw of an idle core changes nothing (60_exceptions.md R388; log entry 13). -/
theorem step_of_idle (hidle : s.busy = false) (hnext : s.nextEvent = .complete ∨ s.nextEvent = .draw) :
    step s = .next s.afterTake := by
  have hno : s.completesNext = false := by simp [State.completesNext, hidle]
  have hready : s.afterTake.entReady = false := by simp [State.entReady, hidle]
  rcases hnext with hnext | hnext
  · rw [step_of_event hno, hnext, State.applyEvent]
  · rw [step_of_event hno, hnext, State.applyEvent, State.drawEvent_of_idle (.inl hready)]

theorem State.writeWindow_with_pending (s : State) (rest : List Event) (w : Window) (o : Nat) (d : Word) :
    ({ s with pending := rest } : State).writeWindow w o d = { s.writeWindow w o d with pending := rest } := by
  cases w with
  | cfg =>
    simp only [State.writeWindow, State.writeCfg]
    split <;> rfl
  | _ => rfl

/-- A host write does not read the events to come. -/
theorem State.busWrite_with_pending (s : State) (rest : List Event) (a : BitVec 20) (d : Word) :
    ({ s with pending := rest } : State).busWrite a d =
      ({ (s.busWrite a d).1 with pending := rest }, (s.busWrite a d).2) := by
  have hsize : ({ s with pending := rest } : State).msgBytes = s.msgBytes := rfl
  simp only [State.busWrite, hsize]
  cases locate s.msgBytes a with
  | none => rfl
  | some found =>
    simp only [State.writeWindow_with_pending]
    split_ifs <;> rfl

/-- Settles O47: each event is the one arm of `applyEvent` it has. -/
theorem eventEffects : Obligations.EventEffects := by
  refine ⟨fun s a rest hpending => ⟨_, step_of_pending hpending nofun, rfl, fun _ => rfl⟩,
    fun s a d rest hpending => ?write, fun s hidle hpending => ?quiet,
    fun s e rest hidle he hpending => ?listed⟩
  case write =>
    rw [step_of_pending hpending nofun, State.applyEvent, State.busWrite_with_pending]
  case quiet =>
    have hnext : s.nextEvent = .complete := by simp [State.nextEvent, hpending, State.entReady, hidle]
    rw [step_of_idle hidle (.inl hnext), State.afterTake_of_pending_nil hpending]
  case listed =>
    have hnext : s.nextEvent = e := by rw [State.nextEvent, hpending]
    rw [step_of_idle hidle (hnext ▸ he), State.afterTake, hpending, List.tail_cons]

end

end Sys2Proof.Machine
end

section
/-! Proofs about the field arithmetic, the tables and the block transform: bilinearity of the product, the laws
of the tables, the byte permutations, and decryption as the inverse of encryption (40_gf_tables.md R163, R167,
R178; 42_block_transform.md R232, R233, R240). -/

namespace Sys2Proof

open Sys2Proof.Machine

/-! ### The product is bilinear -/

theorem xtime_zero : xtime 0 = 0 := by decide

theorem gfMultiplyLoop_xor_right (b c : Byte) (n i : Nat) (a p q : Byte) :
    gfMultiplyLoop (b ^^^ c) n i a (p ^^^ q) =
      gfMultiplyLoop b n i a p ^^^ gfMultiplyLoop c n i a q := by
  induction n generalizing i a p q with
  | zero => rfl
  | succ n ih =>
    simp only [gfMultiplyLoop, ← ih, BitVec.getLsbD_xor]
    congr 1
    cases b.getLsbD i <;> cases c.getLsbD i
    · rfl
    · exact BitVec.xor_assoc p q a
    · change p ^^^ q ^^^ a = p ^^^ a ^^^ q
      ac_rfl
    · change p ^^^ q = p ^^^ a ^^^ (q ^^^ a)
      rw [show p ^^^ a ^^^ (q ^^^ a) = p ^^^ q ^^^ (a ^^^ a) by ac_rfl, BitVec.xor_self, BitVec.xor_zero]

theorem gfMultiplyLoop_xor_left (b : Byte) (n i : Nat) (x y p q : Byte) :
    gfMultiplyLoop b n i (x ^^^ y) (p ^^^ q) =
      gfMultiplyLoop b n i x p ^^^ gfMultiplyLoop b n i y q := by
  induction n generalizing i x y p q with
  | zero => rfl
  | succ n ih =>
    simp only [gfMultiplyLoop, ← ih, xtime_xor]
    congr 1
    split
    · ac_rfl
    · rfl

/-- The product distributes over XOR on the right (40_gf_tables.md R163). -/
theorem gfMultiply_xor_right (a b c : Byte) :
    gfMultiply a (b ^^^ c) = gfMultiply a b ^^^ gfMultiply a c := by
  exact gfMultiplyLoop_xor_right b c 8 0 a 0 0

theorem gfMultiply_xor_left (a b c : Byte) :
    gfMultiply (a ^^^ b) c = gfMultiply a c ^^^ gfMultiply b c := by
  exact gfMultiplyLoop_xor_left c 8 0 a b 0 0

/-- What holds of 0 and of the eight one-bit bytes, and of a XOR when it holds of both sides, holds of every
byte. -/
theorem byte_xor_induction {P : Byte → Prop} (zero : P 0) (bit : ∀ i : Fin 8, P (BitVec.twoPow 8 i))
    (xor : ∀ x y, P x → P y → P (x ^^^ y)) (b : Byte) : P b := by
  have hsum : ∀ b : Byte, b = ((List.finRange 8).filter fun i : Fin 8 => b.getLsbD i).foldr
      (fun (i : Fin 8) x => BitVec.twoPow 8 i ^^^ x) 0 := by decide +kernel
  rw [hsum b]
  induction (List.finRange 8).filter fun i : Fin 8 => b.getLsbD i with
  | nil => exact zero
  | cons i rest ih => exact xor _ _ (bit i) ih

theorem gfMultiply_zero : ∀ a : Byte, gfMultiply a 0 = 0 := by decide +kernel

theorem zero_gfMultiply : ∀ a : Byte, gfMultiply 0 a = 0 := by decide +kernel

theorem gfMultiply_comm (a b : Byte) : gfMultiply a b = gfMultiply b a := by
  induction a using byte_xor_induction with
  | zero => rw [gfMultiply_zero, zero_gfMultiply]
  | xor x y hx hy => rw [gfMultiply_xor_right, gfMultiply_xor_left, hx, hy]
  | bit i =>
    induction b using byte_xor_induction with
    | zero => rw [gfMultiply_zero, zero_gfMultiply]
    | xor x y hx hy => rw [gfMultiply_xor_right, gfMultiply_xor_left, hx, hy]
    | bit j => revert i j; decide +kernel

theorem gfMultiply_assoc (a b c : Byte) :
    gfMultiply (gfMultiply a b) c = gfMultiply a (gfMultiply b c) := by
  induction a using byte_xor_induction with
  | zero => simp only [zero_gfMultiply]
  | xor x y hx hy => simp only [gfMultiply_xor_left, hx, hy]
  | bit i =>
    induction b using byte_xor_induction with
    | zero => simp only [gfMultiply_zero, zero_gfMultiply]
    | xor x y hx hy => simp only [gfMultiply_xor_right, gfMultiply_xor_left, hx, hy]
    | bit j =>
      induction c using byte_xor_induction with
      | zero => simp only [gfMultiply_zero]
      | xor x y hx hy => simp only [gfMultiply_xor_right, hx, hy]
      | bit k => revert i j k; decide +kernel

/-- Settles O11: commutativity and associativity hold on the one-bit bytes, and both sides are linear. -/
theorem gfMultiplyFieldLaws : Obligations.GfMultiplyFieldLaws :=
  ⟨gfMultiply_comm, gfMultiply_assoc, gfMultiply_xor_right, gfMultiply_one, gfMultiply_zero, rfl, rfl⟩

/-! ### The tables -/

theorem invSbox_sbox : ∀ b : Byte, invSbox (sbox b) = b := by decide +kernel

theorem sbox_laws : ∀ b : Byte, sbox (invSbox b) = b ∧ sbox b ≠ b ∧ sbox b ≠ b ^^^ 0xFF := by decide +kernel

/-- The four products of the two coefficient rows: 1 at a distance of 0, and 0 at the others
(40_gf_tables.md R178). -/
theorem mixing_coefficients (b : Byte) :
    mul14 (mul2 b) ^^^ mul11 b ^^^ mul13 b ^^^ mul9 (mul3 b) = b ∧
      mul14 (mul3 b) ^^^ mul11 (mul2 b) ^^^ mul13 b ^^^ mul9 b = 0 ∧
      mul14 b ^^^ mul11 (mul3 b) ^^^ mul13 (mul2 b) ^^^ mul9 b = 0 ∧
      mul14 b ^^^ mul11 b ^^^ mul13 (mul3 b) ^^^ mul9 (mul2 b) = 0 := by
  revert b
  decide +kernel

/-- One row of the inverse mixing applied to a mixed column x, y, z, w of which x is the row's own byte. -/
theorem mixing_row (x y z w : Byte) :
    mul14 (mul2 x ^^^ mul3 y ^^^ z ^^^ w) ^^^ mul11 (x ^^^ mul2 y ^^^ mul3 z ^^^ w) ^^^
      mul13 (x ^^^ y ^^^ mul2 z ^^^ mul3 w) ^^^ mul9 (mul3 x ^^^ y ^^^ z ^^^ mul2 w) = x := by
  obtain ⟨hx, -, -, -⟩ := mixing_coefficients x
  obtain ⟨-, hy, -, -⟩ := mixing_coefficients y
  obtain ⟨-, -, hz, -⟩ := mixing_coefficients z
  obtain ⟨-, -, -, hw⟩ := mixing_coefficients w
  have hsum : x = (mul14 (mul2 x) ^^^ mul11 x ^^^ mul13 x ^^^ mul9 (mul3 x)) ^^^
      (mul14 (mul3 y) ^^^ mul11 (mul2 y) ^^^ mul13 y ^^^ mul9 y) ^^^
      (mul14 z ^^^ mul11 (mul3 z) ^^^ mul13 (mul2 z) ^^^ mul9 z) ^^^
      (mul14 w ^^^ mul11 w ^^^ mul13 (mul3 w) ^^^ mul9 (mul2 w)) := by
    rw [hx, hy, hz, hw]
    simp
  conv_rhs => rw [hsum]
  simp only [mul9_eq, mul11_eq, mul13_eq, mul14_eq, gfMultiply_xor_left]
  ac_rfl

theorem invMixColumn_mixColumn (q : Quad) : invMixColumn (mixColumn q) = q := by
  obtain ⟨x, y, z, w⟩ := q
  ext1
  · exact mixing_row x y z w
  · refine Eq.trans ?_ (mixing_row y z w x)
    simp only [invMixColumn, mixColumn]
    ac_rfl
  · refine Eq.trans ?_ (mixing_row z w x y)
    simp only [invMixColumn, mixColumn]
    ac_rfl
  · refine Eq.trans ?_ (mixing_row w x y z)
    simp only [invMixColumn, mixColumn]
    ac_rfl

/-- Settles O12: the substitution laws over the 256 bytes, the tables as products, and the two mixings as inverse
coefficient rows. -/
theorem tableLaws : Obligations.TableLaws := by
  refine ⟨fun b => ⟨invSbox_sbox b, sbox_laws b⟩, fun b => ?_, invMixColumn_mixColumn⟩
  simp only [mul2_eq, mul3_eq, mul9_eq, mul11_eq, mul13_eq, mul14_eq, gfMultiply_comm b, and_self]

/-! ### Rows and bytes -/

theorem shiftRows_row (s : Block) {r c : Nat} (hr : r < 4) (hc : c < 4) :
    ((shiftRows s).column c).row r = (s.column ((c + r) % 4)).row r := by
  interval_cases r <;> interval_cases c <;> rfl

theorem invShiftRows_row (s : Block) {r c : Nat} (hr : r < 4) (hc : c < 4) :
    ((invShiftRows s).column c).row r = (s.column ((c + 4 - r) % 4)).row r := by
  interval_cases r <;> interval_cases c <;> rfl

/-- Settles O14: row by row, and as the byte permutations the rotations are. -/
theorem rowRotations : Obligations.RowRotations := by
  refine ⟨fun s r c hr hc => ⟨shiftRows_row s hr hc, invShiftRows_row s hr hc⟩, fun s => ?_⟩
  rw [Block.bytes_eq, Block.bytes_eq]
  exact ⟨rfl, rfl⟩

/-! ### The inverse laws -/

theorem invSubBytes_subBytes (s : Block) : invSubBytes (subBytes s) = s :=
  Block.ext_byte fun i _ => by rw [invSubBytes_byte, subBytes_byte, invSbox_sbox]

theorem invShiftRows_shiftRows (s : Block) : invShiftRows (shiftRows s) = s := rfl

theorem invMixColumns_mixColumns (s : Block) : invMixColumns (mixColumns s) = s := by
  simp only [invMixColumns, mixColumns, Block.mapColumns, invMixColumn_mixColumn]

theorem addRoundKey_addRoundKey (s k : Block) : addRoundKey (addRoundKey s k) k = s :=
  Block.xor_self_right s k

theorem invSubBytes_invShiftRows_shiftRows_subBytes (s : Block) :
    invSubBytes (invShiftRows (shiftRows (subBytes s))) = s := by
  rw [invShiftRows_shiftRows, invSubBytes_subBytes]

/-- The inverse rounds n..1 undo the rounds 1..n: the substitution and the rotation of the round after them
stay in front. -/
theorem decryptRounds_encryptRounds (rk : Vector Block 15) (n : Nat) (s : Block) :
    decryptRounds rk n (shiftRows (subBytes (encryptRounds rk n s))) = shiftRows (subBytes s) := by
  induction n with
  | zero => rfl
  | succ n ih =>
    rw [decryptRounds, encryptRounds, decryptRound, invSubBytes_invShiftRows_shiftRows_subBytes,
      encryptRound, addRoundKey_addRoundKey, invMixColumns_mixColumns, ih]

theorem blockDecrypt_blockEncrypt (rk : Vector Block 15) (nr : Nat) (b : Block) :
    blockDecrypt rk nr (blockEncrypt rk nr b) = b := by
  simp only [blockDecrypt, blockEncrypt, addRoundKey_addRoundKey, decryptRounds_encryptRounds,
    invSubBytes_invShiftRows_shiftRows_subBytes]

/-- Settles O17: each primitive's inverse law, and decryption undoes encryption round by round. -/
theorem decryptionInvertsEncryption : Obligations.DecryptionInvertsEncryption :=
  ⟨fun s k => ⟨invSubBytes_subBytes s, invShiftRows_shiftRows s, invMixColumns_mixColumns s,
    addRoundKey_addRoundKey s k⟩, fun rk v b => blockDecrypt_blockEncrypt rk v.nr b⟩

/-! ### Known answers -/

/-- The inverse law for the cipher under a key. -/
theorem keyDecipher_keyCipher (v : Variant) (key : Vector Quad 8) (b : Block) :
    keyDecipher v key (keyCipher v key b) = b :=
  blockDecrypt_blockEncrypt _ v.nr b

theorem keyDecipher_of_keyCipher {v : Variant} {key : Vector Quad 8} {b c : Block}
    (h : keyCipher v key b = c) : keyDecipher v key c = b := by
  rw [← h, keyDecipher_keyCipher]

/-- Settles O18: the encryptions are evaluated, and the decryptions follow by the inverse law. -/
theorem knownAnswers : Obligations.KnownAnswers := by
  unfold Obligations.KnownAnswers
  intro key plain c128 c192 c256
  have h128 : keyCipher .aes128 key plain = c128 := by decide +kernel
  have h192 : keyCipher .aes192 key plain = c192 := by decide +kernel
  have h256 : keyCipher .aes256 key plain = c256 := by decide +kernel
  exact ⟨h128, keyDecipher_of_keyCipher h128, h192, keyDecipher_of_keyCipher h192, h256,
    keyDecipher_of_keyCipher h256⟩

/-! ### Round keys -/

theorem roundKeyOf_byte (w : List Quad) (r : Nat) {j : Nat} (h : j < 16) :
    (roundKeyOf w r).byte j = (wordAt w (4 * r + j / 4)).row (j % 4) := by
  interval_cases j <;> rfl

/-- Round key 0 is the first four words of the key, which every variant has (41_key_schedule.md R203). -/
theorem roundKeyOf_expandKey_zero (v : Variant) (key : Vector Quad 8) :
    roundKeyOf (expandKey v key) 0 = ⟨key[0], key[1], key[2], key[3]⟩ := by
  have hfour : 4 ≤ v.nk := by cases v <;> decide
  have hword : ∀ i (h8 : i < 8), i < 4 → wordAt (expandKey v key) i = key[i] := fun i h8 hi =>
    wordAt_expandKey_of_lt v key (by omega) h8
  simp only [roundKeyOf, Nat.mul_zero, Nat.zero_add, hword 0 (by omega) (by omega),
    hword 1 (by omega) (by omega), hword 2 (by omega) (by omega), hword 3 (by omega) (by omega)]

/-- Settles O20: a round key is four consecutive words, and the first Nk words are the key's. -/
theorem roundKeyGrouping : Obligations.RoundKeyGrouping :=
  ⟨fun w r _ hj => roundKeyOf_byte w r hj,
    fun key => ⟨expandKey_length .aes128 key, expandKey_length .aes192 key, expandKey_length .aes256 key⟩,
    roundKeyOf_expandKey_zero⟩

end Sys2Proof
end

section
/-! Proofs about the commands on STATE, KEY, IV and one block, and about the held schedule, which no result
depends on (20_memory.md R106; 41_key_schedule.md R205–R209; 42_block_transform.md R241–R249). -/

namespace Sys2Proof

open Sys2Proof.Machine

/-! ### The cipher reads round keys 0..Nr -/

theorem encryptRounds_congr {rk rk' : Vector Block 15} (n : Nat) (b : Block)
    (h : ∀ r, r ≤ n → roundKey rk r = roundKey rk' r) : encryptRounds rk n b = encryptRounds rk' n b := by
  induction n with
  | zero => rfl
  | succ n ih =>
    rw [encryptRounds, encryptRounds, h (n + 1) le_rfl, ih fun r hr => h r (by omega)]

theorem blockEncrypt_congr {rk rk' : Vector Block 15} (nr : Nat) (b : Block)
    (h : ∀ r, r ≤ nr → roundKey rk r = roundKey rk' r) : blockEncrypt rk nr b = blockEncrypt rk' nr b := by
  simp only [blockEncrypt, h 0 (Nat.zero_le nr), h nr le_rfl,
    encryptRounds_congr (nr - 1) _ fun r hr => h r (by omega)]

namespace Machine

/-- Under the key-schedule invariant the held schedule enciphers as a fresh expansion of the key does
(20_memory.md R106). -/
theorem State.encrypt_eq_keyCipher {s : State} {v : Variant} (hok : s.ScheduleOk)
    (hv : s.schedule = some v) : s.encrypt = keyCipher v s.key := by
  funext b
  have hnr : s.nr = v.nr := by simp [State.nr, hv]
  rw [State.encrypt, keyCipher, hnr]
  refine blockEncrypt_congr v.nr b fun r hr => ?_
  have h15 : r < 15 := lt_of_le_of_lt hr (Variant.nr_lt v)
  rw [(hok v hv).2 r hr, roundKey_scheduleRam _ _ _ _ h15, if_pos hr]

/-! ### `EnsureKey()` -/

section
variable {s t : State} {v : Variant}

/-- Two round-key RAMs with the same round keys are the same. -/
theorem roundKeys_ext {x y : Vector Block 15} (h : ∀ r, r < 15 → roundKey x r = roundKey y r) : x = y := by
  ext1 r hr
  simpa [roundKey, hr] using h r hr

/-- Expanding the key again changes nothing where its schedule is held. -/
theorem scheduleRam_of_scheduleOk (hok : s.ScheduleOk) (hv : s.schedule = some v) :
    scheduleRam v s.key s.rk = s.rk :=
  roundKeys_ext fun r hr => by
    rw [roundKey_scheduleRam _ _ _ _ hr]
    split
    case isTrue hle => exact ((hok v hv).2 r hle).symm
    case isFalse => rfl

/-- `EnsureKey()` gives the state `Expand()` gives, whether a schedule was held or not
(41_key_schedule.md R206). -/
theorem State.ensureKey_eq_expand (hok : s.ScheduleOk) (hlegal : Variant.ofKeyLen s.keyLen = some v) :
    s.ensureKey v = s.expand v := by
  cases hv : s.schedule with
  | none => exact State.ensureKey_of_none hv v
  | some v' =>
    obtain rfl : v' = v := Option.some.inj ((hok v' hv).1.symm.trans hlegal)
    rw [State.ensureKey_of_some hv, State.expand, scheduleRam_of_scheduleOk hok hv, ← hv]

/-- What `EnsureKey()` leaves of the schedule, in the words of the statements. -/
theorem State.ensureKey_keyEnsured (hok : s.ScheduleOk) (hlegal : Variant.ofKeyLen s.keyLen = some v) :
    s.KeyEnsured (s.ensureKey v) v := by
  obtain ⟨hok', hv'⟩ := State.ensureKey_scheduleOk hok hlegal
  refine ⟨hv', hok', fun hheld => ?_, fun r hr h15 => ?_⟩
  · obtain ⟨v', hv⟩ := Option.ne_none_iff_exists'.mp hheld
    rw [State.ensureKey_of_some hv]
  · rw [State.ensureKey_eq_expand hok hlegal, State.expand_rk, roundKey_scheduleRam _ _ _ _ h15,
      if_neg (Nat.not_le.mpr hr)]

/-- A command that begins with `EnsureKey()` leaves its schedule, when it leaves KEY and KEYLEN alone. -/
theorem State.keyEnsured_of_ensureKey (hok : s.ScheduleOk) (hlegal : Variant.ofKeyLen s.keyLen = some v)
    (hschedule : t.schedule = (s.ensureKey v).schedule) (hlen : t.keyLen = s.keyLen) (hkey : t.key = s.key)
    (hrk : t.rk = (s.ensureKey v).rk) : s.KeyEnsured t v := by
  obtain ⟨hv, -, hheld, hbeyond⟩ := State.ensureKey_keyEnsured hok hlegal
  exact ⟨hschedule.trans hv, State.scheduleOk_of_ensured hok hlegal hschedule hlen hkey hrk,
    fun h => hrk.trans (hheld h), fun r hr h15 => by rw [hrk, hbeyond r hr h15]⟩

theorem State.ensureKey_memReadBlock (s : State) (v : Variant) (o : Nat) :
    (s.ensureKey v).memReadBlock o = s.memReadBlock o := by
  rw [s.ensureKey_frame v]
  rfl

/-- The ciphers after `EnsureKey()` are those of the current key. -/
theorem State.ensureKey_encrypt (hok : s.ScheduleOk) (hlegal : Variant.ofKeyLen s.keyLen = some v) :
    (s.ensureKey v).encrypt = keyCipher v s.key := by
  obtain ⟨hok', hv'⟩ := State.ensureKey_scheduleOk hok hlegal
  rw [State.encrypt_eq_keyCipher hok' hv', s.ensureKey_key]

theorem State.ensureKey_decrypt (hok : s.ScheduleOk) (hlegal : Variant.ofKeyLen s.keyLen = some v) :
    (s.ensureKey v).decrypt = keyDecipher v s.key := by
  obtain ⟨hok', hv'⟩ := State.ensureKey_scheduleOk hok hlegal
  rw [State.decrypt_eq_keyDecipher hok' hv', s.ensureKey_key]

end

/-! ### The schedule held is not seen -/

section
variable {s t : State} {i : Instr}

theorem State.ensureKey_invalidate (hok : s.ScheduleOk)
    (hlegal : Variant.ofKeyLen s.keyLen = some s.keyVariant) :
    s.invalidate.ensureKey s.invalidate.keyVariant = s.ensureKey s.keyVariant := by
  have hvariant : s.invalidate.keyVariant = s.keyVariant := rfl
  rw [hvariant, State.ensureKey_eq_expand hok hlegal,
    State.ensureKey_eq_expand (s := s.invalidate) (State.scheduleOk_of_none rfl) hlegal]
  rfl

theorem checkFailure_invalidate (i : Instr) (s : State) : checkFailure i s.invalidate = checkFailure i s := by
  cases i <;> rfl

theorem drawCount_invalidate (i : Instr) (s : State) : drawCount i s.invalidate = drawCount i s := by
  cases i <;> rfl

theorem canDraw_invalidate : s.invalidate.canDraw i ↔ s.canDraw i := by
  rw [State.canDraw, State.canDraw, drawCount_invalidate]
  rfl

/-- A command that uses the schedule gives the same state whether one was held or not. -/
theorem execute_invalidate_of_uses (hok : s.ScheduleOk) (huses : usesSchedule i = true)
    (hpass : checkFailure i s = none) : execute i s.invalidate = execute i s := by
  have hensure := State.ensureKey_invalidate hok (State.ofKeyLen_of_passed hpass huses)
  cases i with
  | addRoundKey rk => simp only [execute, hensure]
  | encBlock | decBlock | cbcEnc | cbcDec => simp only [execute, hensure, State.invalidate_ivLen]
  | keyExpand => rfl
  | _ => cases huses

/-- Any other command keeps it that no schedule is held. -/
theorem execute_invalidate_of_not_uses (huses : usesSchedule i = false) :
    execute i s.invalidate = (execute i s).invalidate := by
  cases i with
  | addRoundKey _ | keyExpand | encBlock | decBlock | cbcEnc | cbcDec => cases huses
  | unpad =>
    have hread : s.invalidate.memRead 0 s.invalidate.msgLength = s.memRead 0 s.msgLength := rfl
    simp only [execute, hread]
    cases unpad (s.memRead 0 s.msgLength) <;> rfl
  | _ => rfl

/-- Settles O23: `EnsureKey()` ends in the state of a fresh expansion either way, and a command that does not
come to it reads no schedule. -/
theorem scheduleCacheInvisible : Obligations.ScheduleCacheInvisible := by
  refine ⟨fun i s hok huses hpass hdraw => ?_, fun i s t hnot h => ?_⟩
  · rw [exec_of_ready hpass hdraw,
      exec_of_ready ((checkFailure_invalidate i s).trans hpass) (canDraw_invalidate.mpr hdraw),
      execute_invalidate_of_uses hok huses hpass]
  · obtain ⟨e, hcheck, rfl⟩ | ⟨hpass, hdraw, rfl⟩ | ⟨hpass, hdraw, rfl⟩ := exec_cases h
    · exact exec_of_failure ((checkFailure_invalidate i s).trans hcheck)
    · exact exec_of_hold ((checkFailure_invalidate i t).trans hpass) (mt canDraw_invalidate.mp hdraw)
    · have huses : usesSchedule i = false := by
        by_contra huses
        exact hnot ⟨by simpa using huses, hpass, hdraw⟩
      rw [exec_of_ready ((checkFailure_invalidate i s).trans hpass) (canDraw_invalidate.mpr hdraw),
        execute_invalidate_of_not_uses huses]

end

/-! ### GEN_KEY and GEN_IV -/

section
variable {s : State} {v : Variant}

theorem keyOfBytes_byte (bs : List Byte) {j : Nat} (h : j < 32) :
    ((keyOfBytes bs)[j / 4]?.getD ⟨0, 0, 0, 0⟩).row (j % 4) = bs.getD j 0 := by
  have hquad : (keyOfBytes bs)[j / 4]? = some (Quad.ofBytes bs (4 * (j / 4))) := by
    simp [keyOfBytes, show j / 4 < 8 by omega]
  rw [hquad, Option.getD_some]
  have hrow : ∀ r, r < 4 → (Quad.ofBytes bs (4 * (j / 4))).row r = bs.getD (4 * (j / 4) + r) 0 := by
    intro r hr
    interval_cases r <;> rfl
  rw [hrow _ (Nat.mod_lt _ (by omega)), Nat.div_add_mod]

/-- Settles O24: the new KEY is the drawn bytes followed by zeros, cut into words. -/
theorem genKeyCommand : Obligations.GenKeyCommand := by
  intro s v hv hready
  have hpass : checkFailure .genKey s = none := by
    simp [checkFailure_eq_none_iff, checks, State.keyLenBad_of_some hv]
  have hdraw : s.canDraw .genKey := by rwa [State.canDraw, drawCount, Variant.toNat_of_ofKeyLen hv]
  have hkey : ∀ j, j < 32 → (execute .genKey s).keyByte j =
      (s.taken.take v.keyBytes ++ List.replicate (32 - v.keyBytes) 0).getD j 0 := by
    intro j hj
    rw [← State.keyVariant_of_some hv]
    exact keyOfBytes_byte _ hj
  have hlen : (s.taken.take v.keyBytes).length = v.keyBytes := by simpa using hready
  have hle : v.keyBytes ≤ 32 := by cases v <;> decide
  refine ⟨_, exec_of_ready hpass hdraw, fun j hj => ?drawn, fun j hj h32 => ?zero, rfl, rfl, ?frame⟩
  case drawn =>
    rw [hkey j (by omega), List.getD_append _ _ _ _ (by rwa [hlen])]
    simp [List.getD_eq_getElem?_getD, hj]
  case zero =>
    rw [hkey j h32, List.getD_append_right _ _ _ _ (by rwa [hlen])]
    exact List.getD_replicate _ (by rw [hlen]; omega)
  case frame =>
    rw [← State.keyVariant_of_some hv]
    rfl

/-- Settles O25: IV is the first sixteen drawn bytes. -/
theorem genIvCommand : Obligations.GenIvCommand := by
  intro s hready
  refine ⟨_, exec_of_ready (i := .genIv) rfl hready, fun j hj => ?_, rfl, rfl⟩
  have hiv : (execute .genIv s).iv = Block.ofBytes (s.taken.take 16) := rfl
  rw [hiv, Block.ofBytes_byte _ _ hj]
  simp [List.getD_eq_getElem?_getD, hj]

end

/-! ### The commands on STATE -/

section
variable {s : State} {v : Variant}

/-- Settles O27: the six pairs of a command and its primitive, one by one. -/
theorem stageCommands : Obligations.StageCommands := by
  intro s i f w hmem
  simp only [List.mem_cons, Prod.mk.injEq, List.not_mem_nil, or_false] at hmem
  rcases hmem with ⟨rfl, rfl, rfl⟩ | ⟨rfl, rfl, rfl⟩ | ⟨rfl, rfl, rfl⟩ | ⟨rfl, rfl, rfl⟩ | ⟨rfl, rfl, rfl⟩ |
      ⟨rfl, rfl, rfl⟩ <;>
    exact ⟨by decide, _, rfl, rfl, State.errCode_of_accepted⟩

/-- Round key rk after `EnsureKey()` is that of the current key. -/
theorem State.ensureKey_roundKey (hok : s.ScheduleOk) (hlegal : Variant.ofKeyLen s.keyLen = some v) {rk : Nat}
    (hrk : rk ≤ v.nr) : roundKey (s.ensureKey v).rk rk = roundKeyOf (expandKey v s.key) rk := by
  obtain ⟨hok', hv'⟩ := State.ensureKey_scheduleOk hok hlegal
  rw [(hok' v hv').2 rk hrk, s.ensureKey_key]

/-- Settles O28: the round key XORed in is the one `EnsureKey()` leaves. -/
theorem addRoundKeyCommand : Obligations.AddRoundKeyCommand := by
  intro s v rk hok hlegal hrk
  have hpass : checkFailure (.addRoundKey rk) s = none := by
    simp [checkFailure_eq_none_iff, checks, State.keyLenBad_of_some hlegal, State.roundIndexBad_eq hlegal,
      hrk]
  have hframe := execute_addRoundKey_frame s rk
  rw [State.keyVariant_of_some hlegal] at hframe
  refine ⟨_, exec_of_ready hpass (Nat.zero_le _), fun i hi => ?byte, ?ensured, ?frame⟩
  case byte =>
    have hstate : (execute (.addRoundKey rk) s).stateReg =
        (s.ensureKey v).stateReg.xor (roundKey (s.ensureKey v).rk rk) := by
      rw [← State.keyVariant_of_some hlegal]
      rfl
    rw [hstate, Block.xor_byte _ _ _ hi, State.ensureKey_roundKey hok hlegal hrk, s.ensureKey_frame v]
  case ensured =>
    rw [hframe]
    exact State.keyEnsured_of_ensureKey hok hlegal rfl rfl rfl rfl
  case frame => rw [hframe]

end

/-! ### ENC_BLOCK and DEC_BLOCK -/

section
variable {s : State} {v : Variant}

theorem State.transformBlock_memReadBlock (s : State) (f : State → Block → Block) :
    (s.transformBlock f).memReadBlock 0 = f s (s.memReadBlock 0) :=
  State.memReadBlock_memWrite _ _ _

theorem State.transformBlock_msgByte (s : State) (f : State → Block → Block) {o : Nat} (h : 16 ≤ o) :
    (s.transformBlock f).msgByte o = s.msgByte o :=
  State.msgByte_memWrite_outside _ 0 _ o (.inr (by simpa using h))

theorem State.ensureKey_msgByte (s : State) (v : Variant) (o : Nat) :
    (s.ensureKey v).msgByte o = s.msgByte o := by
  rw [s.ensureKey_frame v]
  rfl

/-- What a single-block command with the given cipher leaves of s in t: MSG[0..15], W, the schedule, BUSY and DONE
(42_block_transform.md R248, R249). -/
def State.BlockResult (s : State) (v : Variant) (cipher : Block → Block) (t : State) : Prop :=
  t.memReadBlock 0 = cipher (s.memReadBlock 0) ∧ (∀ o, 16 ≤ o → t.msgByte o = s.msgByte o) ∧
    s.KeyEnsured t v ∧
    t = { s with msg := t.msg, w := t.w, rk := t.rk, schedule := t.schedule, busy := false, done := true }

/-- A single-block command, from the cipher its function is after `EnsureKey()`. -/
theorem exec_singleBlock {i : Instr} {f : State → Block → Block} {cipher : Block → Block}
    (hok : s.ScheduleOk) (hlegal : Variant.ofKeyLen s.keyLen = some v) (hlen : s.msgLength = 16)
    (hi : i = .encBlock ∨ i = .decBlock)
    (hexec : execute i s = (s.ensureKey s.keyVariant).transformBlock f)
    (hcipher : f (s.ensureKey v) = cipher) :
    ∃ t, exec i s = .next t ∧ s.BlockResult v cipher t := by
  have hpass : checkFailure i s = none :=
    (checkFailure_singleBlock_iff hi).mpr ⟨State.keyLenBad_of_some hlegal, hlen⟩
  have hdraw : s.canDraw i := by rcases hi with rfl | rfl <;> exact Nat.zero_le _
  rw [State.keyVariant_of_some hlegal] at hexec
  refine ⟨_, (exec_of_ready hpass hdraw).trans (congrArg _ hexec), ?block, fun o ho => ?rest, ?ensured, ?frame⟩
  case block => rw [State.transformBlock_memReadBlock, hcipher, State.ensureKey_memReadBlock]
  case rest => rw [State.transformBlock_msgByte _ _ ho, State.ensureKey_msgByte]
  case ensured =>
    exact State.keyEnsured_of_ensureKey hok hlegal rfl (s.ensureKey_keyLen v) (s.ensureKey_key v) rfl
  case frame => rw [State.transformBlock_frame, s.ensureKey_frame v]

/-- Settles O29: `EnsureKey()` makes the held schedule that of the key, and MSG is written at 0..15 alone. -/
theorem encBlockCommand : Obligations.EncBlockCommand :=
  fun _ _ hok hlegal hlen =>
    exec_singleBlock hok hlegal hlen (.inl rfl) rfl (State.ensureKey_encrypt hok hlegal)

/-- Two states agree on MSG when they agree on block 0 and on every byte after it. -/
theorem State.msgByte_ext {t : State} (hblock : t.memReadBlock 0 = s.memReadBlock 0)
    (hrest : ∀ o, 16 ≤ o → t.msgByte o = s.msgByte o) (o : Nat) : t.msgByte o = s.msgByte o := by
  rcases Nat.lt_or_ge o 16 with hinside | hafter
  · have hbyte := congrArg (Block.byte · o) hblock
    simpa [State.memReadBlock_byte _ _ _ hinside] using hbyte
  · exact hrest o hafter

theorem exec_decBlock (hok : s.ScheduleOk) (hlegal : Variant.ofKeyLen s.keyLen = some v)
    (hlen : s.msgLength = 16) :
    ∃ t, exec .decBlock s = .next t ∧ s.BlockResult v (keyDecipher v s.key) t :=
  exec_singleBlock hok hlegal hlen (.inr rfl) rfl (State.ensureKey_decrypt hok hlegal)

/-- Settles O30: DEC_BLOCK is ENC_BLOCK with the decipher; after ENC_BLOCK the key and the length are the same,
so the inverse law gives block 0 back. -/
theorem decBlockCommand : Obligations.DecBlockCommand := by
  intro s v hok hlegal hlen
  refine ⟨exec_decBlock hok hlegal hlen, ?_⟩
  obtain ⟨t, ht, hblock, hrest, ⟨-, hok', -⟩, hframe⟩ := encBlockCommand s v hok hlegal hlen
  have hlegal' : Variant.ofKeyLen t.keyLen = some v := by rw [hframe, hlegal]
  have hlen' : t.msgLength = 16 := by
    rw [hframe]
    exact hlen
  have hkey : t.key = s.key := by rw [hframe]
  obtain ⟨u, hu, hblock', hrest', -⟩ := exec_decBlock hok' hlegal' hlen'
  refine ⟨t, u, ht, hu, State.msgByte_ext ?_ fun o ho => (hrest' o ho).trans (hrest o ho)⟩
  rw [hblock', hblock, hkey, keyDecipher_keyCipher]

end

end Machine

end Sys2Proof
end

section
/-! Proofs about the padding unit and the commands PAD and UNPAD (44_padding.md R330–R335). -/

namespace Sys2Proof

open Sys2Proof.Machine

/-! ### Padding and its inverse -/

theorem padCount_range (length : Nat) : 1 ≤ padCount length ∧ padCount length ≤ 16 := by
  unfold padCount
  omega

theorem add_padCount_mod (length : Nat) : (length + padCount length) % 16 = 0 := by
  unfold padCount
  omega

@[simp] theorem pad_length (m : List Byte) : (pad m).length = m.length + padCount m.length := by
  rw [pad, List.length_append, padBytes_length]

/-- `unpad` undoes `pad` (44_padding.md R332). -/
theorem unpad_pad (m : List Byte) : unpad (pad m) = .ok (m, padCount m.length) :=
  unpad_append_replicate m (padCount_range _).1 (padCount_range _).2

/-- Data that ends in n bytes of value n has that byte at each of its last n places. -/
theorem getD_reverse_of_padded {m : List Byte} {n j : Nat} {b d : Byte} (hj : j < n) :
    (m ++ List.replicate n b).reverse.getD j d = b := by
  rw [List.reverse_append, List.reverse_replicate, List.getD_append _ _ _ _ (by simpa using hj)]
  exact List.getD_replicate _ hj

/-- Data whose last byte is no pad length, or differs from one of the bytes it counts, is not padded
(44_padding.md R332). -/
theorem unpad_invalid {data : List Byte} {last : Byte}
    (h : last = 0 ∨ 16 < last.toNat ∨ ∃ j, j + 1 < last.toNat ∧
      (data ++ [last]).reverse.getD (j + 1) last ≠ last) :
    unpad (data ++ [last]) = .error .invalidPadding := by
  rw [unpad_eq_invalidPadding_iff, ne_eq, unpad_eq_emptyInput_iff]
  refine ⟨by simp, ?_⟩
  rintro ⟨m, n, hok⟩
  obtain ⟨hpos, hle, hdata⟩ := unpad_eq_ok_iff.mp hok
  have hlast : last = BitVec.ofNat 8 n := by
    have hzero := getD_reverse_of_padded (m := m) (b := BitVec.ofNat 8 n) (d := last) hpos
    rw [← hdata] at hzero
    simpa using hzero
  have hcount : last.toNat = n := by rw [hlast, toNat_padByte hle]
  rcases h with hz | hlarge | ⟨j, hj, hdiffers⟩
  · rw [hz] at hcount
    exact absurd hcount (by simpa using by omega)
  · omega
  · rw [hdata, getD_reverse_of_padded (by omega)] at hdiffers
    exact hdiffers hlast.symm

namespace Machine

/-! ### PAD -/

section
variable {s : State}

theorem State.paddedLength_lt (hfits : s.paddedLength ≤ s.msgBytes) : s.paddedLength < 2 ^ 16 := by
  have hsize := s.msgBytes_le
  omega

theorem State.setMsgLength_msgLength {n : Nat} (h : n < 2 ^ 16) : (s.setMsgLength n).msgLength = n := by
  rw [State.msgLength, State.setMsgLength_msgLen, BitVec.toNat_ofNat, Nat.mod_eq_of_lt h]

/-- Inside the pad bytes MSG holds n, outside them what it held (44_padding.md R333). -/
theorem State.writePadding_msgByte_inside {o : Nat} (hlo : s.msgLength ≤ o) (hhi : o < s.paddedLength) :
    s.writePadding.msgByte o = BitVec.ofNat 8 (padCount s.msgLength) := by
  obtain ⟨j, rfl⟩ := Nat.exists_eq_add_of_le hlo
  have hj : j < padCount s.msgLength := by
    rw [State.paddedLength] at hhi
    omega
  rw [State.writePadding, State.msgByte_memWrite_inside _ _ _ _ (by rwa [padBytes_length])]
  exact List.getElem_replicate _

theorem State.writePadding_msgByte_outside {o : Nat} (h : o < s.msgLength ∨ s.paddedLength ≤ o) :
    s.writePadding.msgByte o = s.msgByte o :=
  State.msgByte_memWrite_outside _ _ _ _ (by rwa [padBytes_length])

theorem exec_pad (hfits : s.paddedLength ≤ s.msgBytes) : exec .pad s = .next (execute .pad s) :=
  exec_of_ready (checkFailure_pad_iff.mpr hfits) (Nat.zero_le _)

theorem execute_pad_msgLength (hfits : s.paddedLength ≤ s.msgBytes) :
    (execute .pad s).msgLength = s.paddedLength :=
  State.setMsgLength_msgLength (s := s.writePadding) (State.paddedLength_lt hfits)

/-- Settles O33: the store of the pad bytes, read byte by byte. -/
theorem padCommand : Obligations.PadCommand := by
  intro s hfits
  refine ⟨_, exec_pad hfits, execute_pad_msgLength hfits, fun o hlo hhi => ?_, fun o ho => ?_, rfl⟩
  · rw [execute_pad_msgLength hfits] at hhi
    exact State.writePadding_msgByte_inside hlo hhi
  · rw [execute_pad_msgLength hfits] at ho
    exact State.writePadding_msgByte_outside ho

/-- After PAD the message is the padded one. -/
theorem execute_pad_memRead (s : State) :
    (execute .pad s).memRead 0 s.paddedLength = pad (s.memRead 0 s.msgLength) := by
  refine List.ext_getElem (by simp [State.paddedLength]) fun j hj hj' => ?_
  have hbyte : (execute .pad s).msgByte j = s.writePadding.msgByte j := rfl
  rw [State.memRead_getElem, Nat.zero_add, hbyte, State.writePadding_msgByte s (by simpa using hj),
    List.getD_eq_getElem _ _ hj']

end

/-! ### UNPAD -/

section
variable {s : State}

theorem exec_unpad (hpos : 0 < s.msgLength) (hfits : s.msgLength ≤ s.msgBytes) :
    exec .unpad s = .next (execute .unpad s) :=
  exec_of_ready (checkFailure_unpad_iff.mpr ⟨hpos, hfits⟩) (Nat.zero_le _)

theorem execute_unpad_of_ok {m : List Byte} {n : Nat} (h : unpad (s.memRead 0 s.msgLength) = .ok (m, n)) :
    execute .unpad s = (s.setMsgLength (s.msgLength - n)).complete := by
  simp only [execute, h]

theorem execute_unpad_of_error {f : PadFailure} (h : unpad (s.memRead 0 s.msgLength) = .error f) :
    execute .unpad s = s.raise .invalidPadding := by
  simp only [execute, h]

/-- A message ends in n bytes of value b when its last n places hold b. -/
theorem State.memRead_eq_append_replicate_iff {length n : Nat} {b : Byte} :
    (∃ m, s.memRead 0 length = m ++ List.replicate n b) ↔
      n ≤ length ∧ ∀ j, j < n → s.msgByte (length - 1 - j) = b := by
  constructor
  · rintro ⟨m, hm⟩
    have hlen : length = m.length + n := by simpa using congrArg List.length hm
    refine ⟨by omega, fun j hj => ?_⟩
    have hindex : length - 1 - j < (s.memRead 0 length).length := by
      rw [State.memRead_length]
      omega
    have hread := s.memRead_getElem 0 length (length - 1 - j) hindex
    rw [Nat.zero_add] at hread
    rw [← hread, List.getElem_of_eq hm, List.getElem_append_right (by omega), List.getElem_replicate]
  · rintro ⟨hle, hlast⟩
    refine ⟨s.memRead 0 (length - n), List.ext_getElem (by simp; omega) fun j hj hj' => ?_⟩
    have hbound : j < length := by simpa using hj
    rw [State.memRead_getElem, Nat.zero_add]
    rcases Nat.lt_or_ge j (length - n) with hmessage | hpad
    · rw [List.getElem_append_left (by simpa using hmessage), State.memRead_getElem, Nat.zero_add]
    · rw [List.getElem_append_right (by simpa using hpad), List.getElem_replicate,
        ← hlast (length - 1 - j) (by omega), show length - 1 - (length - 1 - j) = j by omega]

/-- The message in MSG is valid padded data, by its last byte (44_padding.md R331, R334). -/
def State.EndsPadded (s : State) : Prop :=
  1 ≤ (s.msgByte (s.msgLength - 1)).toNat ∧ (s.msgByte (s.msgLength - 1)).toNat ≤ 16 ∧
    (s.msgByte (s.msgLength - 1)).toNat ≤ s.msgLength ∧
    ∀ j, j < (s.msgByte (s.msgLength - 1)).toNat →
      s.msgByte (s.msgLength - 1 - j) = s.msgByte (s.msgLength - 1)

theorem State.exists_unpad_of_endsPadded (h : s.EndsPadded) :
    ∃ m, unpad (s.memRead 0 s.msgLength) = .ok (m, (s.msgByte (s.msgLength - 1)).toNat) := by
  obtain ⟨hpos, hle, hlength, hlast⟩ := h
  obtain ⟨m, hm⟩ := State.memRead_eq_append_replicate_iff.mpr ⟨hlength, hlast⟩
  refine ⟨m, unpad_eq_ok_iff.mpr ⟨hpos, hle, ?_⟩⟩
  rw [hm, BitVec.ofNat_toNat, BitVec.setWidth_eq]

theorem State.endsPadded_of_unpad {m : List Byte} {n : Nat}
    (h : unpad (s.memRead 0 s.msgLength) = .ok (m, n)) : s.EndsPadded := by
  obtain ⟨hpos, hle, hdata⟩ := unpad_eq_ok_iff.mp h
  obtain ⟨hlength, hlast⟩ := State.memRead_eq_append_replicate_iff.mp ⟨m, hdata⟩
  have hbyte : s.msgByte (s.msgLength - 1) = BitVec.ofNat 8 n := hlast 0 hpos
  have hcount : (s.msgByte (s.msgLength - 1)).toNat = n := by rw [hbyte, toNat_padByte hle]
  unfold State.EndsPadded
  rw [hcount]
  exact ⟨hpos, hle, hlength, fun j hj => (hlast j hj).trans hbyte.symm⟩

/-- Settles O34: the validator accepts the message exactly when its last byte counts equal bytes at its end. -/
theorem unpadCommand : Obligations.UnpadCommand := by
  intro s hpos hfits n valid
  refine ⟨fun hvalid => ?_, fun hinvalid => ?_⟩
  · obtain ⟨m, hm⟩ := State.exists_unpad_of_endsPadded hvalid
    have hlen : s.msgLength - n < 2 ^ 16 := Nat.lt_of_le_of_lt (Nat.sub_le _ _) s.msgLen.isLt
    exact ⟨_, (exec_unpad hpos hfits).trans (congrArg _ (execute_unpad_of_ok hm)),
      State.setMsgLength_msgLength (s := s) hlen, rfl⟩
  · rw [exec_unpad hpos hfits]
    obtain ⟨f, hf, hexec⟩ | ⟨m, k, hm, -⟩ := execute_unpad_cases s
    · rw [hexec, State.raise_frame]
    · exact absurd (State.endsPadded_of_unpad hm) hinvalid

end

/-! ### PAD, then UNPAD -/

/-- A message shorter than MSG, whose size is a multiple of 16, fits when it is padded. -/
theorem State.paddedLength_le_of_lt {s : State} (h : s.msgLength + 1 ≤ s.msgBytes) :
    s.paddedLength ≤ s.msgBytes := by
  have hsize : s.msgBytes % 16 = 0 := Nat.mul_mod_right _ _
  rw [State.paddedLength_eq]
  omega

/-- Settles O32: UNPAD finds the padded message PAD left, and `unpad` undoes `pad`. -/
theorem paddingRoundTrip : Obligations.PaddingRoundTrip := by
  refine ⟨fun m => ?lengths, unpad_pad, fun data last h => unpad_invalid h, fun s hfits => ?commands⟩
  case lengths =>
    have hcount := padCount_range m.length
    rw [pad_length]
    exact ⟨add_padCount_mod _, by omega, by omega, by omega⟩
  case commands =>
    have hpadded := State.paddedLength_le_of_lt hfits
    have hlen := execute_pad_msgLength hpadded
    have hpos : 0 < s.paddedLength := by
      have hcount := padCount_range s.msgLength
      rw [State.paddedLength]
      omega
    have hunpad : unpad ((execute .pad s).memRead 0 (execute .pad s).msgLength) =
        .ok (s.memRead 0 s.msgLength, padCount s.msgLength) := by
      rw [hlen, execute_pad_memRead, unpad_pad, State.memRead_length]
    refine ⟨_, _, exec_pad hpadded,
      (exec_unpad (by rwa [hlen]) (by rwa [hlen, execute_msgBytes])).trans
        (congrArg _ (execute_unpad_of_ok hunpad)), rfl, ?_, fun o ho => ?_⟩
    · rw [hlen, State.complete_msgLen, State.setMsgLength_msgLen, State.paddedLength, Nat.add_sub_cancel,
        State.msgLength, BitVec.ofNat_toNat, BitVec.setWidth_eq]
    · exact State.writePadding_msgByte_outside (.inl ho)

end Machine

end Sys2Proof
end

section
/-! Proofs about CBC_ENC and CBC_DEC: the blocks the two loops leave, the message they make together, the
failure, and what the results do not depend on (43_cbc_controller.md R280–R291). -/

namespace Sys2Proof

open Sys2Proof.Machine

/-! ### A buffer block by block -/

/-- The first sixteen bytes of a list, through a block and back. -/
theorem Block.bytes_ofBytes {bs : List Byte} (h : 16 ≤ bs.length) : (Block.ofBytes bs).bytes = bs.take 16 := by
  refine List.ext_getElem (by simpa using h) fun i hi hi' => ?_
  have h16 : i < 16 := by simpa using hi
  rw [Block.bytes_getElem, Block.ofBytes_byte _ _ h16, List.getElem_take, List.getD_eq_getElem]

/-- A list of whole blocks is its blocks in order. -/
theorem flatMap_ofBytes_drop (n : Nat) (bs : List Byte) (h : bs.length = 16 * n) :
    ((List.range n).flatMap fun k => (Block.ofBytes (bs.drop (16 * k))).bytes) = bs := by
  induction n generalizing bs with
  | zero => exact (List.length_eq_zero_iff.mp h).symm
  | succ n ih =>
    have hrest := ih (bs.drop 16) (by rw [List.length_drop]; omega)
    rw [List.range_succ_eq_map, List.flatMap_cons, List.flatMap_map, Nat.mul_zero, List.drop_zero,
      Block.bytes_ofBytes (by omega)]
    simp only [List.drop_drop] at hrest
    simp only [Nat.succ_eq_add_one, Nat.mul_add, Nat.mul_one, Nat.add_comm _ 16, hrest, List.take_append_drop]

namespace Machine

theorem State.memReadBlock_eq_drop (s : State) {k n : Nat} (h : k < n) :
    s.memReadBlock (16 * k) = Block.ofBytes ((s.memRead 0 (16 * n)).drop (16 * k)) :=
  Block.ext_byte fun i hi => by
    have hindex : 16 * k + i < (s.memRead 0 (16 * n)).length := by
      rw [State.memRead_length]
      omega
    rw [State.memReadBlock_byte _ _ _ hi, Block.ofBytes_byte _ _ hi, List.getD_eq_getElem?_getD,
      List.getElem?_drop, List.getElem?_eq_getElem hindex, Option.getD_some, State.memRead_getElem, Nat.zero_add]

/-- A read of whole blocks is the blocks in order. -/
theorem State.memRead_eq_flatMap (s : State) (n : Nat) :
    s.memRead 0 (16 * n) = (List.range n).flatMap fun k => (s.memReadBlock (16 * k)).bytes := by
  rw [← flatMap_ofBytes_drop n (s.memRead 0 (16 * n)) (State.memRead_length ..)]
  refine List.flatMap_congr fun k hk => ?_
  rw [s.memReadBlock_eq_drop (List.mem_range.mp hk)]

theorem State.memRead_take (s : State) {k n : Nat} (h : k ≤ n) : (s.memRead 0 n).take k = s.memRead 0 k := by
  refine List.ext_getElem (by simpa using h) fun j hj hj' => ?_
  rw [List.getElem_take, State.memRead_getElem, State.memRead_getElem]

/-! ### What the loops leave -/

section
variable {s : State} {v : Variant} {k o : Nat}

theorem State.paddedLength_mod (s : State) : s.paddedLength % 16 = 0 := add_padCount_mod _

theorem State.toNat_blockCount {n : Nat} (h : 16 * n ≤ s.msgBytes) : (BitVec.ofNat 16 n).toNat = n := by
  have hsize := s.msgBytes_le
  rw [BitVec.toNat_ofNat, Nat.mod_eq_of_lt (by omega)]

theorem State.setBlockCount_counts {n : Nat} (h : 16 * n ≤ s.msgBytes) :
    (s.setBlockCount n).blocks.toNat = n ∧
      (s.setBlockCount n).trcnt.toNat = if s.traceEn then n else 0 := by
  refine ⟨State.toNat_blockCount h, ?_⟩
  rw [State.setBlockCount_trcnt]
  split
  · exact State.toNat_blockCount h
  · rfl

/-- A loop over n blocks writes TRACE below 48n when traced, and nowhere else (43_cbc_controller.md R287). -/
theorem State.afterTurns_traceByte {a : State} (p : ChainPlan) {n : Nat}
    (h : (if a.traceEn then 48 * n else 0) ≤ o) : (a.afterTurns p n).traceByte o = a.traceByte o := by
  simp only [State.traceByte, State.afterTurns]
  cases htrace : a.traceEn with
  | true =>
    simp only [htrace, if_true] at h
    rw [if_pos rfl, p.traceAfter_find_beyond h]
  | false => rw [if_neg Bool.false_ne_true]

/-- Each ciphertext block is the encryption of the padded block XOR the block before, or the IV
(43_cbc_controller.md R282). -/
theorem State.cbcEncrypt_memReadBlock (hk : k < s.paddedLength / 16) :
    s.cbcEncrypt.memReadBlock (16 * k) = s.encrypt ((s.paddedBlock k).xor
      (if k = 0 then s.iv else s.cbcEncrypt.memReadBlock (16 * (k - 1)))) := by
  have hloop := followsPlan_encrypt s.writePadding.startChain (s.paddedLength / 16)
  have hblock : s.writePadding.startChain.memReadBlock (16 * k) = s.paddedBlock k :=
    s.writePadding_memReadBlock hk
  have hprev : s.writePadding.startChain.cipherChain k =
      if k = 0 then s.iv else s.cbcEncrypt.memReadBlock (16 * (k - 1)) := by
    cases k with
    | zero => rfl
    | succ r => exact (hloop.stored r (by omega)).symm
  rw [← hblock, ← hprev]
  exact hloop.stored k hk

theorem State.cbcEncrypt_msgByte (ho : s.paddedLength ≤ o) : s.cbcEncrypt.msgByte o = s.msgByte o := by
  have hloop := followsPlan_encrypt s.writePadding.startChain (s.paddedLength / 16)
  have hrest := hloop.rest o (Nat.le_trans (Nat.mul_div_le _ 16) ho)
  exact hrest.trans (State.writePadding_msgByte_outside (.inr ho))

theorem State.cbcEncrypt_traceByte (ho : (if s.traceEn then 3 * s.paddedLength else 0) ≤ o) :
    s.cbcEncrypt.traceByte o = s.traceByte o := by
  have hmod := s.paddedLength_mod
  have hchained : s.encChained.traceByte o = s.traceByte o := by
    refine State.afterTurns_traceByte (a := s.writePadding.startChain) _ (Nat.le_trans ?_ ho)
    rw [State.startChain_traceEn, State.writePadding_traceEn]
    split <;> omega
  rw [State.cbcEncrypt_eq]
  exact hchained

theorem State.cbcEncrypt_counts (hfits : s.paddedLength ≤ s.msgBytes) :
    s.cbcEncrypt.blocks.toNat = s.paddedLength / 16 ∧
      s.cbcEncrypt.trcnt.toNat = if s.traceEn then s.paddedLength / 16 else 0 := by
  have hblocks : 16 * (s.paddedLength / 16) ≤ s.encChained.msgBytes :=
    Nat.le_trans (Nat.mul_div_le _ 16) hfits
  have htraceEn : s.encChained.traceEn = s.traceEn := rfl
  rw [State.cbcEncrypt_eq, ← htraceEn]
  generalize s.encChained = t at hblocks
  exact State.setBlockCount_counts
    (s := ({ t.setMsgLength s.paddedLength with ivLen := 0 } : State)) hblocks

end

/-! ### CBC_ENC -/

section
variable {s : State} {v : Variant} {k o : Nat}

theorem State.ivSelected_encrypt (hok : s.ScheduleOk) (hlegal : Variant.ofKeyLen s.keyLen = some v) :
    s.ivSelected.encrypt = keyCipher v s.key := by
  rw [← State.ensureKey_encrypt hok hlegal, State.ivSelected_frame, State.keyVariant_of_some hlegal]
  rfl

theorem State.ivSelected_paddedLength (s : State) : s.ivSelected.paddedLength = s.paddedLength := by
  rw [State.ivSelected_frame]
  rfl

theorem State.ivSelected_msgBytes (s : State) : s.ivSelected.msgBytes = s.msgBytes := by
  rw [State.ivSelected_frame]
  rfl

theorem State.ivSelected_traceEn (s : State) : s.ivSelected.traceEn = s.traceEn := by
  rw [State.ivSelected_frame]

theorem State.ivSelected_paddedBlock (s : State) (k : Nat) :
    s.ivSelected.paddedBlock k = s.paddedBlock k := by
  rw [State.ivSelected_frame]
  rfl

theorem State.ivSelected_msgByte (s : State) (o : Nat) : s.ivSelected.msgByte o = s.msgByte o := by
  rw [State.ivSelected_frame]
  rfl

theorem State.ivSelected_traceByte (s : State) (o : Nat) : s.ivSelected.traceByte o = s.traceByte o := by
  rw [State.ivSelected_frame]
  rfl

theorem execute_cbcEnc_msgLength (hfits : s.paddedLength ≤ s.msgBytes) :
    (execute .cbcEnc s).msgLength = s.paddedLength := by
  rw [execute_cbcEnc, State.cbcEncrypt_msgLength, State.ivSelected_paddedLength]
  rwa [State.ivSelected_paddedLength, State.ivSelected_msgBytes]

theorem execute_cbcEnc_counts (hfits : s.paddedLength ≤ s.msgBytes) :
    (execute .cbcEnc s).blocks.toNat = s.paddedLength / 16 ∧
      (execute .cbcEnc s).trcnt.toNat = if s.traceEn then s.paddedLength / 16 else 0 := by
  have hcounts := State.cbcEncrypt_counts (s := s.ivSelected)
  rw [State.ivSelected_paddedLength, State.ivSelected_msgBytes, State.ivSelected_traceEn] at hcounts
  exact hcounts hfits

/-- The chain of CBC_ENC under the current key, from the IV selected (43_cbc_controller.md R282). -/
theorem execute_cbcEnc_memReadBlock (hok : s.ScheduleOk) (hlegal : Variant.ofKeyLen s.keyLen = some v)
    (hk : k < s.paddedLength / 16) :
    (execute .cbcEnc s).memReadBlock (16 * k) = keyCipher v s.key ((s.paddedBlock k).xor
      (if k = 0 then s.ivSelected.iv else (execute .cbcEnc s).memReadBlock (16 * (k - 1)))) := by
  rw [← State.ivSelected_encrypt hok hlegal, ← s.ivSelected_paddedBlock]
  rw [← s.ivSelected_paddedLength] at hk
  exact State.cbcEncrypt_memReadBlock hk

theorem execute_cbcEnc_msgByte (ho : s.paddedLength ≤ o) : (execute .cbcEnc s).msgByte o = s.msgByte o := by
  rw [← s.ivSelected_paddedLength] at ho
  exact (State.cbcEncrypt_msgByte ho).trans (s.ivSelected_msgByte o)

theorem execute_cbcEnc_traceByte (ho : (if s.traceEn then 3 * s.paddedLength else 0) ≤ o) :
    (execute .cbcEnc s).traceByte o = s.traceByte o := by
  rw [← s.ivSelected_paddedLength, ← s.ivSelected_traceEn] at ho
  exact (State.cbcEncrypt_traceByte ho).trans (s.ivSelected_traceByte o)

/-- The IV and the bytes left when CBC_ENC is given an IV or finds sixteen drawn bytes
(43_cbc_controller.md R280). -/
theorem State.selected_of_given {iv : Block} {rest : List Byte}
    (h : s.ivLen = 16 ∧ iv = s.iv ∧ rest = s.taken ∨
      s.ivLen = 0 ∧ ∃ bs, bs.length = 16 ∧ s.taken = bs ++ rest ∧ iv = Block.ofBytes bs) :
    (s.ivLen = 0 ∨ s.ivLen = 16) ∧ s.canDraw .cbcEnc ∧
      (if s.ivLen = 0 then Block.ofBytes (s.taken.take 16) else s.iv) = iv ∧
      (if s.ivLen = 0 then s.taken.drop 16 else s.taken) = rest := by
  rcases h with ⟨hiv, rfl, rfl⟩ | ⟨hiv, bs, hlen, htaken, rfl⟩
  · have hnonzero : s.ivLen ≠ 0 := by rw [hiv]; decide
    rw [State.canDraw, drawCount, if_neg hnonzero, if_neg hnonzero, if_neg hnonzero]
    exact ⟨.inr hiv, Nat.zero_le _, rfl, rfl⟩
  · rw [State.canDraw, drawCount, if_pos hiv, if_pos hiv, if_pos hiv, htaken, ← hlen, List.take_left,
      List.drop_left, List.length_append]
    exact ⟨.inl hiv, Nat.le_add_right _ _, rfl, rfl⟩

/-- Settles O35: after the checks, `EnsureKey()` and `SelectIV()`, the loop's closed form read at each part of the
state. -/
theorem cbcEncCommand : Obligations.CbcEncCommand := by
  intro s v iv rest hok hlegal hgiven hfits
  obtain ⟨hivLen, hdraw, hiv, hrest⟩ := State.selected_of_given hgiven
  have hpass : checkFailure .cbcEnc s = none :=
    checkFailure_cbcEnc_iff.mpr ⟨State.keyLenBad_of_some hlegal, hivLen, hfits⟩
  have hselected : s.ivSelected.iv = iv := by rw [State.ivSelected_frame, hiv]
  have hframe := execute_cbcEnc_frame s
  rw [hiv, hrest, State.keyVariant_of_some hlegal] at hframe
  have hlen := execute_cbcEnc_msgLength hfits
  obtain ⟨hblocks, htrcnt⟩ := execute_cbcEnc_counts hfits
  refine ⟨_, exec_of_ready hpass hdraw, hlen, by rwa [hlen], by rwa [hlen], fun k hk => ?chain,
    fun o ho => ?msg, fun o ho => ?trace, ?ensured, ?frame⟩
  case chain =>
    rw [hlen] at hk
    rw [execute_cbcEnc_memReadBlock hok hlegal hk, hselected]
  case msg => exact execute_cbcEnc_msgByte (by rwa [hlen] at ho)
  case trace => exact execute_cbcEnc_traceByte (by rwa [hlen] at ho)
  case ensured =>
    rw [hframe]
    exact State.keyEnsured_of_ensureKey hok hlegal rfl rfl rfl rfl
  case frame => rw [hframe]

end

end Machine

end Sys2Proof
end

section
/-! Proofs about CBC_DEC, its failure, the round trip, and what the CBC commands' results do not depend on
(43_cbc_controller.md R281, R284–R286, R291). -/

namespace Sys2Proof.Machine

open Sys2Proof

/-! ### CBC_DEC's loop -/

section
variable {s : State} {v : Variant} {k o : Nat}

/-- CBC_DEC's loop leaves the plaintext blocks of the ciphertext it found (43_cbc_controller.md R284). -/
theorem State.decChained_memReadBlock (hcipher : s.decrypt = keyDecipher v s.key) (hk : k < s.msgLength / 16) :
    s.decChained.memReadBlock (16 * k) = s.plainBlock v k := by
  have hloop := followsPlan_decrypt s.startChain (s.msgLength / 16)
  rw [forBlocks_cbcDecBlock] at hloop
  refine (hloop.stored k hk).trans ?_
  rw [State.plainBlock, ← hcipher]
  rfl

theorem State.decChained_msgByte (ho : s.msgLength ≤ o) : s.decChained.msgByte o = s.msgByte o := by
  have hloop := followsPlan_decrypt s.startChain (s.msgLength / 16)
  rw [forBlocks_cbcDecBlock] at hloop
  exact hloop.rest o (Nat.le_trans (Nat.mul_div_le _ 16) ho)

theorem State.decChained_traceByte (ho : (if s.traceEn then 3 * s.msgLength else 0) ≤ o) :
    s.decChained.traceByte o = s.traceByte o := by
  refine State.afterTurns_traceByte (a := s.startChain) _ (Nat.le_trans ?_ ho)
  rw [State.startChain_traceEn]
  split <;> omega

/-- The message after the loop is the plaintext. -/
theorem State.decChained_memRead (hcipher : s.decrypt = keyDecipher v s.key) (hblocks : s.msgLength % 16 = 0) :
    s.decChained.memRead 0 s.msgLength = s.plaintext v := by
  have hread := s.decChained.memRead_eq_flatMap (s.msgLength / 16)
  rw [show 16 * (s.msgLength / 16) = s.msgLength by omega] at hread
  rw [hread, State.plaintext]
  refine List.flatMap_congr fun k hk => ?_
  rw [State.decChained_memReadBlock hcipher (List.mem_range.mp hk)]

/-- What CBC_DEC leaves of s when the padding is valid, but for the schedule (43_cbc_controller.md R284). -/
theorem State.cbcDecrypt_valid {m : List Byte} {n : Nat} (hcipher : s.decrypt = keyDecipher v s.key)
    (hblocks : s.msgLength % 16 = 0) (hfits : s.msgLength ≤ s.msgBytes)
    (hvalid : unpad (s.plaintext v) = .ok (m, n)) :
    s.cbcDecrypt.msgLength = s.msgLength - n ∧ s.cbcDecrypt.memRead 0 (s.msgLength - n) = m ∧
      (∀ k, k < s.msgLength / 16 → s.cbcDecrypt.memReadBlock (16 * k) = s.plainBlock v k) ∧
      (∀ o, s.msgLength ≤ o → s.cbcDecrypt.msgByte o = s.msgByte o) ∧
      s.cbcDecrypt.blocks.toNat = s.msgLength / 16 ∧
      (s.cbcDecrypt.trcnt.toNat = if s.traceEn then s.msgLength / 16 else 0) ∧
      (∀ o, (if s.traceEn then 3 * s.msgLength else 0) ≤ o → s.cbcDecrypt.traceByte o = s.traceByte o) ∧
      s.cbcDecrypt.error = s.error := by
  have hread := State.decChained_memRead hcipher hblocks
  have hdata : s.decChained.memRead 0 s.msgLength = m ++ List.replicate n (BitVec.ofNat 8 n) := by
    rw [hread]
    exact (unpad_eq_ok_iff.mp hvalid).2.2
  have hlen : m.length = s.msgLength - n := by
    have hcount := congrArg List.length hdata
    rw [State.memRead_length, List.length_append, List.length_replicate] at hcount
    omega
  have hmessage : s.decChained.memRead 0 (s.msgLength - n) = m := by
    rw [← State.memRead_take _ (Nat.sub_le _ n), hdata, ← hlen, List.take_left]
  have hcounts := State.setBlockCount_counts (s := s.decChained) (n := s.msgLength / 16)
    (Nat.le_trans (Nat.mul_div_le _ 16) hfits)
  have hmsgLength : s.msgLength - n < 2 ^ 16 := Nat.lt_of_le_of_lt (Nat.sub_le _ _) s.msgLen.isLt
  rw [State.cbcDecrypt_of_ok s (hread ▸ hvalid)]
  exact ⟨State.setMsgLength_msgLength (s := s) hmsgLength, hmessage,
    fun k hk => State.decChained_memReadBlock hcipher hk, fun o ho => State.decChained_msgByte ho,
    hcounts.1, hcounts.2, fun o ho => State.decChained_traceByte ho, rfl⟩

/-- A store of zeros from offset 0. -/
theorem Memory.find_writeBytes_zeros (m : Memory) (n o : Nat) :
    (m.writeBytes 0 (List.replicate n 0)).find o = if o < n then some 0 else m.find o := by
  split
  case isTrue hinside =>
    have hzero := Memory.find_writeBytes_inside (List.replicate n 0) m 0 o (by simpa using hinside)
    rw [Nat.zero_add] at hzero
    rw [hzero, List.getElem_replicate]
  case isFalse hbeyond =>
    exact Memory.find_writeBytes_outside _ _ _ _ (.inr (by simpa using hbeyond))

/-- `DecryptFail(L)` zeroes MSG below L and nothing else of MSG (43_cbc_controller.md R285). -/
theorem State.decryptFail_msgByte (s : State) (length o : Nat) :
    (s.decryptFail length).msgByte o = if o < length then 0 else s.msgByte o := by
  rw [State.decryptFail_eq]
  simp only [State.msgByte, Memory.find_writeBytes_zeros]
  split <;> rfl

/-- `DecryptFail(L)` zeroes TRACE below 3L when it was traced, and nothing else of TRACE. -/
theorem State.decryptFail_traceByte (s : State) (length o : Nat) :
    (s.decryptFail length).traceByte o =
      if s.traceEn = true ∧ o < 3 * length then 0 else s.traceByte o := by
  rw [State.decryptFail_eq]
  simp only [State.traceByte]
  cases s.traceEn with
  | true =>
    simp only [if_true, true_and, Memory.find_writeBytes_zeros]
    split <;> rfl
  | false => simp

/-- What CBC_DEC leaves of s when the padding is not valid, but for the schedule (43_cbc_controller.md R285). -/
theorem State.cbcDecrypt_invalid {f : PadFailure} (hcipher : s.decrypt = keyDecipher v s.key)
    (hblocks : s.msgLength % 16 = 0) (hinvalid : unpad (s.plaintext v) = .error f) :
    (∀ o, o < s.msgLength → s.cbcDecrypt.msgByte o = 0) ∧
      (∀ o, s.msgLength ≤ o → s.cbcDecrypt.msgByte o = s.msgByte o) ∧
      (s.traceEn = true → ∀ o, o < 3 * s.msgLength → s.cbcDecrypt.traceByte o = 0) ∧
      (∀ o, (if s.traceEn then 3 * s.msgLength else 0) ≤ o → s.cbcDecrypt.traceByte o = s.traceByte o) ∧
      s.cbcDecrypt.msgLen = 0 ∧ s.cbcDecrypt.blocks = 0 ∧ s.cbcDecrypt.trcnt = 0 ∧
      s.cbcDecrypt.error = some .decryptFailed := by
  have htraceEn : s.decChained.traceEn = s.traceEn := rfl
  rw [State.cbcDecrypt_of_error s ((State.decChained_memRead hcipher hblocks) ▸ hinvalid)]
  refine ⟨fun o ho => ?_, fun o ho => ?_, fun hon o ho => ?_, fun o ho => ?_, rfl, rfl, rfl, rfl⟩
  · rw [State.decryptFail_msgByte, if_pos ho]
  · rw [State.decryptFail_msgByte, if_neg (Nat.not_lt.mpr ho), State.decChained_msgByte ho]
  · rw [State.decryptFail_traceByte, if_pos ⟨htraceEn.trans hon, ho⟩]
  · rw [State.decryptFail_traceByte, State.decChained_traceByte ho, if_neg]
    rintro ⟨hon, hlt⟩
    rw [if_pos (htraceEn.symm.trans hon)] at ho
    omega

/-! ### CBC_DEC -/

theorem exec_cbcDec (hlegal : Variant.ofKeyLen s.keyLen = some v) (hiv : s.ivLen = 16) (hpos : 0 < s.msgLength)
    (hblocks : s.msgLength % 16 = 0) (hfits : s.msgLength ≤ s.msgBytes) :
    exec .cbcDec s = .next (execute .cbcDec s) :=
  exec_of_ready (checkFailure_cbcDec_iff.mpr ⟨State.keyLenBad_of_some hlegal, hiv, ⟨hpos, hblocks⟩, hfits⟩)
    (Nat.zero_le _)

/-- CBC_DEC's execute part runs on s with the schedule `EnsureKey()` leaves, whose decipher is the key's. -/
theorem execute_cbcDec_eq (hok : s.ScheduleOk) (hlegal : Variant.ofKeyLen s.keyLen = some v) :
    ∃ rk schedule, execute .cbcDec s = ({ s with rk := rk, schedule := schedule } : State).cbcDecrypt ∧
      ({ s with rk := rk, schedule := schedule } : State).decrypt = keyDecipher v s.key := by
  refine ⟨(s.ensureKey v).rk, (s.ensureKey v).schedule, ?_, ?_⟩
  · rw [← s.ensureKey_frame v, ← State.keyVariant_of_some hlegal]
    rfl
  · rw [← s.ensureKey_frame v, State.ensureKey_decrypt hok hlegal]

theorem execute_cbcDec_keyEnsured (hok : s.ScheduleOk) (hlegal : Variant.ofKeyLen s.keyLen = some v) :
    s.KeyEnsured (execute .cbcDec s) v := by
  rw [execute_cbcDec_frame, State.keyVariant_of_some hlegal]
  exact State.keyEnsured_of_ensureKey hok hlegal rfl rfl rfl rfl

/-- Settles O36: the loop leaves the plaintext in MSG, whose valid padding MSGLEN then leaves out. -/
theorem cbcDecCommand : Obligations.CbcDecCommand := by
  intro s v m n hok hlegal hiv hpos hblocks hfits hvalid
  obtain ⟨rk, schedule, hexec, hcipher⟩ := execute_cbcDec_eq hok hlegal
  have hresult := State.cbcDecrypt_valid hcipher hblocks hfits hvalid
  have hframe := execute_cbcDec_frame s
  rw [← hexec] at hresult
  obtain ⟨hlen, hmessage, hplain, hmsg, hcount, htrcnt, htrace, herror⟩ := hresult
  refine ⟨_, exec_cbcDec hlegal hiv hpos hblocks hfits, hlen, by rw [hlen]; exact hmessage, hplain, hmsg, hcount,
    htrcnt, htrace, execute_cbcDec_keyEnsured hok hlegal, ?frame⟩
  case frame =>
    rw [herror] at hframe
    rw [hframe]

/-- Settles O37: whichever check of the validator failed, CBC_DEC ends by `DecryptFail(L)`. -/
theorem cbcDecFailureScrubs : Obligations.CbcDecFailureScrubs := by
  intro s v f hok hlegal hiv hpos hblocks hfits hinvalid
  obtain ⟨rk, schedule, hexec, hcipher⟩ := execute_cbcDec_eq hok hlegal
  have hresult := State.cbcDecrypt_invalid hcipher hblocks hinvalid
  have hframe := execute_cbcDec_frame s
  rw [← hexec] at hresult
  obtain ⟨hzero, hmsg, htraceZero, htrace, hlen, hcount, htrcnt, herror⟩ := hresult
  refine ⟨_, exec_cbcDec hlegal hiv hpos hblocks hfits, hzero, hmsg, htraceZero, htrace, ?code,
    execute_cbcDec_keyEnsured hok hlegal, ?frame⟩
  case code =>
    rw [State.errCode, herror]
    rfl
  case frame =>
    rw [hlen, hcount, htrcnt, herror] at hframe
    rw [hframe]

end

/-! ### The round trip -/

section
variable {s : State} {v : Variant}

/-- The plaintext of the chain CBC_ENC leaves is the padded message: each decipher undoes the encipher, and each
XOR is undone by the same block (43_cbc_controller.md R291). -/
theorem plaintext_of_chain {t : State} (hkey : t.key = s.key) (hlen : t.msgLength = s.paddedLength)
    (hchain : ∀ k, k < t.msgLength / 16 → t.memReadBlock (16 * k) = keyCipher v s.key
      ((s.paddedBlock k).xor (if k = 0 then t.iv else t.memReadBlock (16 * (k - 1))))) :
    t.plaintext v = pad (s.memRead 0 s.msgLength) := by
  have hblocks : (pad (s.memRead 0 s.msgLength)).length = 16 * (t.msgLength / 16) := by
    have hmod := s.paddedLength_mod
    rw [hlen, pad_length, State.memRead_length]
    rw [State.paddedLength] at hmod ⊢
    omega
  rw [← flatMap_ofBytes_drop _ _ hblocks, State.plaintext]
  refine List.flatMap_congr fun k hk => ?_
  rw [State.plainBlock, hchain k (List.mem_range.mp hk), hkey, keyDecipher_keyCipher, Block.xor_self_right,
    State.paddedBlock]

/-- Settles O39: CBC_DEC finds the chain CBC_ENC left, whose plaintext is the padded message. -/
theorem cbcRoundTrip : Obligations.CbcRoundTrip := by
  intro s v hok hlegal hiv hshort
  have hsize := s.sixteen_le_msgBytes
  have hfits : s.paddedLength ≤ s.msgBytes := State.paddedLength_le_of_lt (by omega)
  obtain ⟨t, ht, hlen, -, -, hchain, -, -, ⟨-, hok', -⟩, hframe⟩ :=
    cbcEncCommand s v s.iv s.taken hok hlegal (.inl ⟨hiv, rfl, rfl⟩) hfits
  have hkey : t.key = s.key := by rw [hframe]
  have hbytes : t.msgBytes = s.msgBytes := by rw [hframe]; rfl
  have htiv : t.iv = s.iv := by rw [hframe]
  have hplain : t.plaintext v = pad (s.memRead 0 s.msgLength) :=
    plaintext_of_chain hkey hlen (by rwa [htiv])
  have hvalid : unpad (t.plaintext v) = .ok (s.memRead 0 s.msgLength, padCount s.msgLength) := by
    rw [hplain, unpad_pad, State.memRead_length]
  have hpadded : t.msgLength = s.paddedLength := hlen
  have hcount := padCount_range s.msgLength
  have hmod := s.paddedLength_mod
  obtain ⟨u, hu, hulen, hmessage, -, -, -, -, -, -, huframe⟩ :=
    cbcDecCommand { t with ivLen := 16 } v _ _ (hok'.congr rfl rfl rfl rfl)
      (by rw [hframe, ← hlegal]) rfl
      (show 0 < t.msgLength by rw [hpadded, State.paddedLength]; omega)
      (show t.msgLength % 16 = 0 by rw [hpadded, hmod])
      (show t.msgLength ≤ t.msgBytes by rw [hpadded, hbytes]; exact hfits)
      hvalid
  have hlast : u.msgLength = s.msgLength := by
    rw [hulen]
    change t.msgLength - padCount s.msgLength = s.msgLength
    rw [hpadded, State.paddedLength, Nat.add_sub_cancel]
  exact ⟨t, u, ht, hu, by rw [huframe, hframe], hlast, hmessage⟩

end

/-! ### The IV is used once -/

/-- Settles O41: CBC_ENC's last register write is IVLEN <- 0, its draw is the first sixteen bytes, and CBC_DEC
writes neither register. -/
theorem noSilentIvReuse : Obligations.NoSilentIvReuse := by
  refine ⟨fun s t hpass hdraw h => ?ivLen, fun s t hpass hdraw hiv h => ?drawn, fun s t h => ?cbcDec⟩
  case ivLen =>
    cases (exec_of_ready hpass hdraw).symm.trans h
    rw [execute_cbcEnc_frame]
  case drawn =>
    cases (exec_of_ready hpass hdraw).symm.trans h
    have hready : 16 ≤ s.taken.length := by simpa [State.canDraw, drawCount, hiv] using hdraw
    refine ⟨s.taken.take 16, by simpa using hready, ?_, ?_⟩
    · rw [execute_cbcEnc_frame, hiv]
      exact (List.take_append_drop 16 s.taken).symm
    · rw [execute_cbcEnc_frame, hiv]
      rfl
  case cbcDec =>
    obtain ⟨e, -, rfl⟩ | ⟨-, -, rfl⟩ | ⟨-, -, rfl⟩ := exec_cases h
    · exact ⟨rfl, rfl⟩
    · exact ⟨rfl, rfl⟩
    · rw [execute_cbcDec_frame]
      exact ⟨rfl, rfl⟩

end Sys2Proof.Machine
end

section
/-! Proofs that the trace is all TRACE_EN decides: a CBC command that begins with another TRACE_EN and another
trace ends with another trace (43_cbc_controller.md R286). -/

namespace Sys2Proof.Machine

open Sys2Proof

/-- The state with another TRACE_EN, TRACE and TRCNT. -/
def State.withTrace (s : State) (traceEn : Bool) (trace : Memory) (trcnt : BitVec 16) : State :=
  { s with traceEn := traceEn, trace := trace, trcnt := trcnt }

section
variable (s : State) (traceEn : Bool) (trace : Memory) (trcnt : BitVec 16)

theorem State.withTrace_ensureKey (v : Variant) :
    (s.withTrace traceEn trace trcnt).ensureKey v = (s.ensureKey v).withTrace traceEn trace trcnt := by
  cases h : s.schedule with
  | none => rw [State.ensureKey_of_none h, State.ensureKey_of_none (s := s.withTrace traceEn trace trcnt) h]; rfl
  | some held =>
    rw [State.ensureKey_of_some h, State.ensureKey_of_some (s := s.withTrace traceEn trace trcnt) h]

theorem State.withTrace_ivSelected : (s.withTrace traceEn trace trcnt).ivSelected =
    s.ivSelected.withTrace traceEn trace trcnt := by
  have hensured := s.withTrace_ensureKey traceEn trace trcnt s.keyVariant
  have hvariant : (s.withTrace traceEn trace trcnt).keyVariant = s.keyVariant := rfl
  have hivLen : (s.withTrace traceEn trace trcnt).ivLen = s.ivLen := rfl
  rw [State.ivSelected, State.ivSelected, hvariant, hensured, hivLen]
  split <;> rfl

theorem State.withTrace_cipherChain : (s.withTrace traceEn trace trcnt).cipherChain = s.cipherChain := by
  funext k
  induction k with
  | zero => rfl
  | succ k ih =>
    rw [State.cipherChain, State.cipherChain, ih]
    rfl

theorem State.withTrace_encPlan : (s.withTrace traceEn trace trcnt).encPlan = s.encPlan := by
  rw [State.encPlan, State.encPlan, State.withTrace_cipherChain]
  rfl

/-- The plans of the loops read neither TRACE_EN nor the trace, so the loops end alike but for the trace. -/
theorem State.withTrace_encChained : ∃ trace', (s.withTrace traceEn trace trcnt).encChained =
    s.encChained.withTrace traceEn trace' trcnt := by
  have hplan : (s.withTrace traceEn trace trcnt).writePadding.startChain.encPlan =
      s.writePadding.startChain.encPlan :=
    s.writePadding.startChain.withTrace_encPlan traceEn trace trcnt
  rw [State.encChained, State.encChained, hplan]
  exact ⟨_, rfl⟩

theorem State.withTrace_decChained : ∃ trace', (s.withTrace traceEn trace trcnt).decChained =
    s.decChained.withTrace traceEn trace' trcnt := by
  have hplan : (s.withTrace traceEn trace trcnt).startChain.decPlan = s.startChain.decPlan := rfl
  rw [State.decChained, State.decChained, hplan]
  exact ⟨_, rfl⟩

theorem State.withTrace_cbcEncrypt : ∃ trace' trcnt', (s.withTrace traceEn trace trcnt).cbcEncrypt =
    s.cbcEncrypt.withTrace traceEn trace' trcnt' := by
  obtain ⟨trace', hchained⟩ := s.withTrace_encChained traceEn trace trcnt
  rw [State.cbcEncrypt_eq, State.cbcEncrypt_eq, hchained]
  generalize s.encChained = t
  exact ⟨_, _, rfl⟩

theorem State.withTrace_cbcDecrypt : ∃ trace' trcnt', (s.withTrace traceEn trace trcnt).cbcDecrypt =
    s.cbcDecrypt.withTrace traceEn trace' trcnt' := by
  obtain ⟨trace', hchained⟩ := s.withTrace_decChained traceEn trace trcnt
  have hread : (s.withTrace traceEn trace trcnt).decChained.memRead 0 s.msgLength =
      s.decChained.memRead 0 s.msgLength := by
    rw [hchained]
    rfl
  cases hunpad : unpad (s.decChained.memRead 0 s.msgLength) with
  | ok r =>
    rw [State.cbcDecrypt_of_ok s hunpad, State.cbcDecrypt_of_ok _ (hread ▸ hunpad), hchained]
    generalize s.decChained = t
    exact ⟨_, _, rfl⟩
  | error f =>
    rw [State.cbcDecrypt_of_error s hunpad, State.cbcDecrypt_of_error _ (hread ▸ hunpad), hchained,
      State.decryptFail_eq, State.decryptFail_eq]
    generalize s.decChained = t
    exact ⟨_, _, rfl⟩

/-- A CBC command begun with another trace ends with another trace. -/
theorem exec_withTrace {i : Instr} (hi : i = .cbcEnc ∨ i = .cbcDec) {t : State} (h : exec i s = .next t) :
    ∃ trace' trcnt', exec i (s.withTrace traceEn trace trcnt) = .next (t.withTrace traceEn trace' trcnt') := by
  have hchecks : checkFailure i (s.withTrace traceEn trace trcnt) = checkFailure i s := by
    rcases hi with rfl | rfl <;> rfl
  have hdraws : (s.withTrace traceEn trace trcnt).canDraw i ↔ s.canDraw i := by
    rcases hi with rfl | rfl <;> rfl
  obtain ⟨e, hcheck, rfl⟩ | ⟨hpass, hdraw, rfl⟩ | ⟨hpass, hdraw, rfl⟩ := exec_cases h
  · exact ⟨trace, trcnt, exec_of_failure (hchecks.trans hcheck)⟩
  · exact ⟨trace, trcnt, exec_of_hold (hchecks.trans hpass) (mt hdraws.mp hdraw)⟩
  · rw [exec_of_ready (hchecks.trans hpass) (hdraws.mpr hdraw)]
    rcases hi with rfl | rfl
    · rw [execute_cbcEnc, execute_cbcEnc, State.withTrace_ivSelected]
      obtain ⟨trace', trcnt', heq⟩ := s.ivSelected.withTrace_cbcEncrypt traceEn trace trcnt
      exact ⟨trace', trcnt', congrArg _ heq⟩
    · obtain ⟨trace', trcnt', heq⟩ :=
        (s.ensureKey s.keyVariant).withTrace_cbcDecrypt traceEn trace trcnt
      refine ⟨trace', trcnt', congrArg _ (Eq.trans ?_ heq)⟩
      rw [← State.withTrace_ensureKey]
      rfl

end

/-- Settles O40: the state with TRACE_EN 1 is the one with TRACE_EN 0 but for TRACE_EN, and so are the results but
for the trace. -/
theorem traceEnableInvisible : Obligations.TraceEnableInvisible := by
  intro i s t u hi ht hu
  obtain ⟨trace', trcnt', heq⟩ := exec_withTrace { s with traceEn := false } true s.trace s.trcnt hi ht
  cases heq.symm.trans hu
  rfl

end Sys2Proof.Machine
end

section
/-! Proofs about the registers on the bus: the fields of the words a read shows, and what a write to CFG, MSGLEN,
IRQEN and STATUS leaves (10_state.md R31–R39, R49–R52; 41_key_schedule.md R207). -/

namespace Sys2Proof.Machine

open Sys2Proof

/-! ### The fields of the register words -/

section
variable (s : State)

theorem State.nr_lt : s.nr < 15 := by
  rw [State.nr]
  split
  case h_1 v _ => exact Variant.nr_lt v
  case h_2 => decide

/-- The single bits of STATUS (10_state.md R33). -/
theorem State.statusWord_bits :
    s.statusWord.getLsbD 0 = s.busy ∧ s.statusWord.getLsbD 1 = s.done ∧ s.statusWord.getLsbD 2 = s.err ∧
      s.statusWord.getLsbD 3 = s.werr ∧ s.statusWord.getLsbD 4 = s.keyValid := by
  simp only [State.statusWord, BitVec.getLsbD_append]
  simp

/-- ERRCODE, NR and the reserved ranges of STATUS (10_state.md R33). -/
theorem State.statusWord_fields :
    s.statusWord.extractLsb' 5 3 = 0 ∧ s.statusWord.extractLsb' 8 4 = s.errCode ∧
      s.statusWord.extractLsb' 12 4 = 0 ∧ s.statusWord.extractLsb' 16 4 = BitVec.ofNat 4 s.nr ∧
      s.statusWord.extractLsb' 20 12 = 0 := by
  simp (disch := decide) only [State.statusWord, BitVec.extractLsb'_append_eq_of_le,
    BitVec.extractLsb'_append_eq_of_add_le]
  simp

theorem State.statusWord_nr : (s.statusWord.extractLsb' 16 4).toNat = s.nr := by
  have hnr := s.nr_lt
  obtain ⟨-, -, -, hfield, -⟩ := s.statusWord_fields
  rw [hfield, BitVec.toNat_ofNat, Nat.mod_eq_of_lt (by omega)]

theorem State.cfgWord_fields :
    s.cfgWord.extractLsb' 0 8 = s.keyLen ∧ s.cfgWord.extractLsb' 8 8 = s.ivLen ∧
      s.cfgWord.getLsbD 16 = s.traceEn ∧ s.cfgWord.extractLsb' 17 15 = 0 := by
  simp (disch := decide) only [State.cfgWord, BitVec.getLsbD_append, BitVec.extractLsb'_append_eq_of_le,
    BitVec.extractLsb'_append_eq_of_add_le]
  simp

theorem State.msgLenWord_fields :
    s.msgLenWord.extractLsb' 0 16 = s.msgLen ∧ s.msgLenWord.extractLsb' 16 16 = 0 :=
  ⟨BitVec.extractLsb'_append_eq_right, BitVec.extractLsb'_append_eq_left⟩

theorem State.irqEnWord_fields : s.irqEnWord.getLsbD 0 = s.doneIe ∧ s.irqEnWord.extractLsb' 1 31 = 0 := by
  refine ⟨?_, BitVec.extractLsb'_append_eq_left⟩
  simp only [State.irqEnWord, BitVec.getLsbD_append]
  simp

theorem State.blkCntWord_fields :
    s.blkCntWord.extractLsb' 0 16 = s.blocks ∧ s.blkCntWord.extractLsb' 16 16 = s.trcnt :=
  ⟨BitVec.extractLsb'_append_eq_right, BitVec.extractLsb'_append_eq_left⟩

end

/-! ### The words a register shows after a write -/

section
variable (d : Word)

/-- The defined bits of CFG are its low seventeen (10_state.md R38). -/
theorem cfgWord_of_stored : 0#15 ++ BitVec.ofBool (d.getLsbD 16) ++ d.extractLsb' 8 8 ++ d.extractLsb' 0 8 =
    d &&& 0x0001FFFF := by
  have hmask : ∀ i, i < 32 → (0x0001FFFF : Word).getLsbD i = decide (i < 17) := by decide
  refine BitVec.eq_of_getLsbD_eq fun i hi => ?_
  rw [BitVec.getLsbD_and, hmask i hi]
  simp only [BitVec.getLsbD_append, BitVec.getLsbD_extractLsb']
  by_cases h8 : i < 8
  · simp [h8, show i < 17 by omega]
  · by_cases h16 : i < 16
    · simp [h8, show i - 8 < 8 by omega, show 8 + (i - 8) = i by omega, show i < 17 by omega]
    · by_cases h17 : i = 16
      · simp [h17]
      · simp [h8, show ¬ i - 8 < 8 by omega, show ¬ i < 17 by omega, show i - 8 - 8 ≠ 0 by omega]

/-- The defined bits of MSGLEN are its low sixteen (10_state.md R39). -/
theorem msgLenWord_of_stored : 0#16 ++ d.extractLsb' 0 16 = d &&& 0x0000FFFF := by
  have hmask : ∀ i, i < 32 → (0x0000FFFF : Word).getLsbD i = decide (i < 16) := by decide
  refine BitVec.eq_of_getLsbD_eq fun i hi => ?_
  rw [BitVec.getLsbD_and, hmask i hi]
  simp only [BitVec.getLsbD_append, BitVec.getLsbD_extractLsb']
  by_cases h16 : i < 16
  · simp [h16]
  · simp [h16]

/-- The one defined bit of IRQEN (10_state.md R49). -/
theorem irqEnWord_of_stored : 0#31 ++ BitVec.ofBool (d.getLsbD 0) = d &&& 0x00000001 := by
  have hmask : ∀ i, i < 32 → (0x00000001 : Word).getLsbD i = decide (i = 0) := by decide
  refine BitVec.eq_of_getLsbD_eq fun i hi => ?_
  rw [BitVec.getLsbD_and, hmask i hi]
  simp only [BitVec.getLsbD_append]
  by_cases h0 : i = 0
  · simp [h0]
  · simp [h0]

end

section
variable (s : State) (d : Word)

/-- What a CFG write stores (10_state.md R38), with the schedule left or dropped as KEYLEN stays or changes. -/
theorem State.writeCfg_eq : s.writeCfg d =
    { s with
      keyLen := d.extractLsb' 0 8, ivLen := d.extractLsb' 8 8, traceEn := d.getLsbD 16
      schedule := if d.extractLsb' 0 8 = s.keyLen then s.schedule else none } := by
  by_cases hlen : d.extractLsb' 0 8 = s.keyLen
  · simp only [State.writeCfg, if_pos hlen]
  · simp only [State.writeCfg, if_neg hlen]
    rfl

theorem State.writeCfg_keyValid :
    (s.writeCfg d).keyValid = (s.keyValid && d.extractLsb' 0 8 == s.keyLen) := by
  rw [State.writeCfg_eq]
  by_cases hlen : d.extractLsb' 0 8 = s.keyLen <;> simp [State.keyValid, hlen]

end

/-! ### The statements -/

/-- Settles O44: a register is found at its address busy or not, its word is the fields side by side, and STATUS
accepts a write always. -/
theorem registerReads : Obligations.RegisterReads := by
  refine ⟨fun s => ?reads, fun s => ?status, fun s => ?words, fun s d => ?write⟩
  case reads =>
    exact ⟨State.busRead_register (locate_id _) rfl, State.busRead_register (locate_cmd _) rfl,
      State.busRead_register (locate_status _) rfl, State.busRead_register (locate_cfg _) rfl,
      State.busRead_register (locate_msgLen _) rfl, State.busRead_register (locate_irqEn _) rfl,
      State.busRead_register (locate_blkCnt _) rfl, State.busRead_register (locate_param _) rfl⟩
  case status =>
    obtain ⟨hbusy, hdone, herr, hwerr, hvalid⟩ := s.statusWord_bits
    obtain ⟨hlow, hcode, hmid, -, hhigh⟩ := s.statusWord_fields
    exact ⟨hbusy, hdone, herr, hwerr, hvalid, hlow, hcode, hmid, s.statusWord_nr, hhigh⟩
  case words =>
    obtain ⟨hkeyLen, hivLen, htraceEn, hreserved⟩ := s.cfgWord_fields
    obtain ⟨hmsgLen, hmsgHigh⟩ := s.msgLenWord_fields
    obtain ⟨hdoneIe, hirqHigh⟩ := s.irqEnWord_fields
    exact ⟨hkeyLen, hivLen, htraceEn, hreserved, hmsgLen, hmsgHigh, hdoneIe, hirqHigh, s.blkCntWord_fields⟩
  case write => exact State.busWrite_accepted d (locate_status _) rfl (.inr rfl)

/-- Settles O45: each of the three registers stores the defined bits of the word and shows them again. -/
theorem configurationWrites : Obligations.ConfigurationWrites := by
  refine ⟨fun s d hidle => ?cfg, fun s d hidle => ?msgLen, fun s d => ?irqEn⟩
  case cfg =>
    refine ⟨s.writeCfg d, State.busWrite_accepted d (locate_cfg _) rfl (.inl hidle), ?_⟩
    have hvalid := s.writeCfg_keyValid d
    rw [State.writeCfg_eq] at hvalid ⊢
    exact ⟨State.busRead_register_eq (locate_cfg _) rfl (cfgWord_of_stored d), rfl, rfl, rfl, hvalid, rfl⟩
  case msgLen =>
    exact ⟨s.writeMsgLen d, State.busWrite_accepted d (locate_msgLen _) rfl (.inl hidle),
      State.busRead_register_eq (locate_msgLen _) rfl (msgLenWord_of_stored d), rfl⟩
  case irqEn =>
    exact ⟨s.writeIrqEn d, State.busWrite_accepted d (locate_irqEn _) rfl (.inr rfl),
      State.busRead_register_eq (locate_irqEn _) rfl (irqEnWord_of_stored d), rfl⟩

end Sys2Proof.Machine
end

section
/-! Proofs about the data windows: where each window lies, what a read of it shows byte by byte, and what a write to
it leaves (20_memory.md R93–R97; 10_state.md R44, R46). -/

namespace Sys2Proof.Machine

open Sys2Proof

/-! ### The address map, window by window -/

/-- The range of offsets of a window (20_memory.md R93). -/
def Window.region (msgBytes : Nat) : Window → Region
  | .id => ⟨.id, 0x000, 4⟩
  | .cmd => ⟨.cmd, 0x004, 4⟩
  | .status => ⟨.status, 0x008, 4⟩
  | .cfg => ⟨.cfg, 0x00C, 4⟩
  | .msgLen => ⟨.msgLen, 0x010, 4⟩
  | .irqEn => ⟨.irqEn, 0x014, 4⟩
  | .blkCnt => ⟨.blkCnt, 0x018, 4⟩
  | .param => ⟨.param, 0x01C, 4⟩
  | .key => ⟨.key, 0x100, 32⟩
  | .iv => ⟨.iv, 0x120, 16⟩
  | .state => ⟨.state, 0x130, 16⟩
  | .rkey => ⟨.rkey, 0x200, 240⟩
  | .msg => ⟨.msg, 0x10000, msgBytes⟩
  | .trace => ⟨.trace, 0x20000, 3 * msgBytes⟩

section
variable {msgBytes : Nat}

theorem Window.region_mem (w : Window) : w.region msgBytes ∈ addressMap msgBytes := by
  cases w <;> simp [Window.region, addressMap]

theorem Window.region_window (w : Window) : (w.region msgBytes).window = w := by
  cases w <;> simp [Window.region]

theorem Window.region_base_aligned (w : Window) : (w.region msgBytes).base % 4 = 0 := by
  cases w <;> simp [Window.region]

theorem eq_region_of_mem {r : Region} (h : r ∈ addressMap msgBytes) : r = r.window.region msgBytes := by
  revert r
  simp [addressMap, Window.region]

/-- The ranges follow each other without overlap, as MSG_BYTES is at most 32768 (00_scope.md R5). -/
theorem addressMap_pairwise (hsize : msgBytes ≤ 0x8000) :
    (addressMap msgBytes).Pairwise fun r r' => r.base + r.size ≤ r'.base := by
  simp [addressMap]
  omega

/-- Windows are disjoint: an address lies in one of them at most. -/
theorem eq_of_covers {r r' : Region} {a : BitVec 20} (hsize : msgBytes ≤ 0x8000) (hr : r ∈ addressMap msgBytes)
    (hr' : r' ∈ addressMap msgBytes) (h : r.Covers a) (h' : r'.Covers a) : r = r' := by
  have hordered := addressMap_pairwise hsize
  have hapart : ∀ {x y : Region}, x.base + x.size ≤ y.base → x.Covers a → y.Covers a → False := by
    rintro x y hle ⟨-, hhigh⟩ ⟨hlow, -⟩
    omega
  exact List.Pairwise.forall_of_forall_of_flip (R := fun x y => x.Covers a → y.Covers a → x = y)
    (fun _ _ _ _ => rfl) (hordered.imp fun hle hx hy => (hapart hle hx hy).elim)
    (hordered.imp fun hle hy hx => (hapart hle hx hy).elim) hr hr' h h'

/-- The address of offset o of a window (20_memory.md R93). -/
theorem locate_eq_some_iff {a : BitVec 20} {w : Window} {o : Nat} (hsize : msgBytes ≤ 0x8000) :
    locate msgBytes a = some (w, o) ↔
      o % 4 = 0 ∧ o < (w.region msgBytes).size ∧ a.toNat = (w.region msgBytes).base + o := by
  have hbase := w.region_base_aligned (msgBytes := msgBytes)
  constructor
  · intro h
    obtain ⟨haligned, r, hr, ⟨hlow, hhigh⟩, rfl, rfl⟩ := covers_of_locate h
    rw [← eq_region_of_mem hr] at hbase ⊢
    omega
  · rintro ⟨haligned, ho, ha⟩
    have hcovers : (w.region msgBytes).Covers a := ⟨by omega, by omega⟩
    cases hloc : locate msgBytes a with
    | none =>
      obtain hmis | hnone := locate_eq_none_iff.mp hloc
      · omega
      · exact absurd hcovers (hnone _ w.region_mem)
    | some found =>
      obtain ⟨w', o'⟩ := found
      obtain ⟨-, r, hr, hcovers', rfl, rfl⟩ := covers_of_locate hloc
      obtain rfl := eq_of_covers hsize hr w.region_mem hcovers' hcovers
      rw [w.region_window, show a.toNat - (w.region msgBytes).base = o by omega]

end

/-! ### What a read of a window shows, byte by byte -/

theorem Quad.toWord_lane (q : Quad) {j : Nat} (hj : j < 4) : q.toWord.extractLsb' (8 * j) 8 = q.row j := by
  interval_cases j <;>
    simp (disch := decide) only [Quad.toWord, BitVec.extractLsb'_append_eq_of_le,
      BitVec.extractLsb'_append_eq_of_add_le] <;>
    exact BitVec.extractLsb'_eq_self

/-- Four bytes of a sequence side by side. -/
theorem Quad.row_of_bytes (f : Nat → Byte) (o : Nat) {j : Nat} (hj : j < 4) :
    Quad.row ⟨f o, f (o + 1), f (o + 2), f (o + 3)⟩ j = f (o + j) := by
  interval_cases j <;> rfl

theorem Block.row_column (b : Block) {o j : Nat} (haligned : o % 4 = 0) (hj : j < 4) :
    (b.column (o / 4)).row j = b.byte (o + j) := by
  rw [Block.byte, show (o + j) / 4 = o / 4 by omega, show (o + j) % 4 = j by omega]

section
variable (s : State)

/-- Byte i of a data window, as an idle core shows it (20_memory.md R94; 10_state.md R44, R46). -/
def State.windowByte (s : State) (w : Window) (i : Nat) : Byte :=
  match w with
  | .key => s.keyByte i
  | .iv => s.iv.byte i
  | .state => s.stateReg.byte i
  | .msg => s.msgByte i
  | .rkey => if s.keyValid ∧ i / 16 ≤ s.nr then (roundKey s.rk (i / 16)).byte (i % 16) else 0
  | .trace => s.traceView i
  | .id | .cmd | .status | .cfg | .msgLen | .irqEn | .blkCnt | .param => 0

theorem State.rkeyView_row {o j : Nat} (haligned : o % 4 = 0) (hj : j < 4) :
    (s.rkeyView o).row j = s.windowByte .rkey (o + j) := by
  rw [State.windowByte, show (o + j) / 16 = o / 16 by omega, State.rkeyView]
  split
  · rw [Block.row_column _ (by omega) hj, show o % 16 + j = (o + j) % 16 by omega]
  · exact Quad.row_zero j

/-- Byte lane j of the word at offset o is byte o + j of the window. -/
theorem State.readWindow_lane {w : Window} (hdata : w.isData = true) {o j : Nat} (haligned : o % 4 = 0)
    (hj : j < 4) : (s.readWindow w o).extractLsb' (8 * j) 8 = s.windowByte w (o + j) := by
  cases w with
  | key => exact (Quad.toWord_lane _ hj).trans (Quad.row_of_bytes s.keyByte o hj)
  | iv => exact (Quad.toWord_lane _ hj).trans (Block.row_column s.iv haligned hj)
  | state => exact (Quad.toWord_lane _ hj).trans (Block.row_column s.stateReg haligned hj)
  | rkey => exact (Quad.toWord_lane _ hj).trans (s.rkeyView_row haligned hj)
  | msg => exact (Quad.toWord_lane _ hj).trans (Quad.row_of_bytes s.msgByte o hj)
  | trace => exact (Quad.toWord_lane _ hj).trans (Quad.row_of_bytes s.traceView o hj)
  | _ => cases hdata

/-- An idle core shows every byte of a data window at its address. -/
theorem State.busRead_window (hidle : s.busy = false) {w : Window} (hdata : w.isData = true) {o j : Nat}
    (haligned : o % 4 = 0) (hj : j < 4) (ho : o < (w.region s.msgBytes).size) :
    ∃ d, s.busRead (BitVec.ofNat 20 ((w.region s.msgBytes).base + o)) = ⟨d, false⟩ ∧
      d.extractLsb' (8 * j) 8 = s.windowByte w (o + j) := by
  have hsize := s.msgBytes_le
  have hfits : (w.region s.msgBytes).base + (w.region s.msgBytes).size ≤ 2 ^ 20 := by
    cases w <;> simp [Window.region] <;> omega
  have hloc : locate s.msgBytes (BitVec.ofNat 20 ((w.region s.msgBytes).base + o)) = some (w, o) :=
    (locate_eq_some_iff hsize).mpr ⟨haligned, ho, by rw [BitVec.toNat_ofNat, Nat.mod_eq_of_lt (by omega)]⟩
  refine ⟨s.readWindow w o, ?_, s.readWindow_lane hdata haligned hj⟩
  rw [State.busRead_of_mapped hloc, hidle, Bool.false_and, if_neg Bool.false_ne_true]

end

/-- Settles O50: each window is read at its base and shows its bytes in lanes; the four bytes of a word lie in one
round key and in one trace record. -/
theorem windowReads : Obligations.WindowReads := by
  intro s o j hidle haligned hj
  have hread := fun w hdata => s.busRead_window hidle (w := w) hdata haligned hj
  refine ⟨hread .key rfl, hread .iv rfl, hread .state rfl, hread .msg rfl, fun ho => ?rkey, fun ho => ?trace⟩
  case rkey =>
    obtain ⟨d, hd, hlane⟩ := hread .rkey rfl ho
    refine ⟨d, hd, hlane.trans ?_⟩
    rw [State.windowByte, show (o + j) / 16 = o / 16 by omega, show (o + j) % 16 = o % 16 + j by omega]
  case trace =>
    obtain ⟨d, hd, hlane⟩ := hread .trace rfl ho
    refine ⟨d, hd, hlane.trans ?_⟩
    rw [State.windowByte, State.traceView, show (o + j) / 48 = o / 48 by omega]

end Sys2Proof.Machine
end

section
/-! Proofs about a write to a data window: it is read back, and every other address reads as before
(20_memory.md R94, R97). -/

namespace Sys2Proof.Machine

open Sys2Proof

section
variable {s : State} {o o' : Nat} (d : Word)

theorem Block.column_setColumn_same (b : Block) (c : Nat) (q : Quad) : (b.setColumn c q).column c = q := by
  match c with
  | 0 | 1 | 2 | _ + 3 => rfl

theorem Block.column_setColumn_other (b : Block) {c c' : Nat} (q : Quad) (hc : c < 4) (hc' : c' < 4)
    (hne : c' ≠ c) : (b.setColumn c q).column c' = b.column c' := by
  interval_cases c <;> interval_cases c' <;> simp [Block.setColumn, Block.column] at hne ⊢

/-- A word of KEY is one column of the key (10_state.md R40). -/
theorem State.readWindow_key (haligned : o % 4 = 0) :
    s.readWindow .key o = (s.key[o / 4]?.getD ⟨0, 0, 0, 0⟩).toWord := by
  have hbyte : ∀ j, j < 4 → s.keyByte (o + j) = (s.key[o / 4]?.getD ⟨0, 0, 0, 0⟩).row j := by
    intro j hj
    rw [State.keyByte, show (o + j) / 4 = o / 4 by omega, show (o + j) % 4 = j by omega]
  rw [State.readWindow, show s.keyByte o = _ from hbyte 0 (by omega), hbyte 1 (by omega), hbyte 2 (by omega),
    hbyte 3 (by omega)]
  rfl

/-! ### The written word -/

theorem State.readWindow_write_key (haligned : o % 4 = 0) (ho : o < 32) :
    (s.writeWindow .key o d).readWindow .key o = d := by
  rw [State.readWindow_key haligned]
  change ((s.key.setIfInBounds (o / 4) (Quad.ofWord d))[o / 4]?.getD _).toWord = d
  rw [Vector.getElem?_setIfInBounds_self_of_lt (by omega), Option.getD_some, Quad.toWord_ofWord]

theorem State.readWindow_write_msg : (s.writeWindow .msg o d).readWindow .msg o = d := by
  have hbyte : ∀ j, (hj : j < 4) →
      (s.memWrite o (Quad.ofWord d).bytes).msgByte (o + j) = (Quad.ofWord d).bytes[j] :=
    fun j hj => s.msgByte_memWrite_inside o (Quad.ofWord d).bytes j hj
  rw [State.writeWindow, State.readWindow, show State.msgByte _ o = _ from hbyte 0 (by decide), hbyte 1 (by decide),
    hbyte 2 (by decide), hbyte 3 (by decide)]
  exact Quad.toWord_ofWord d

/-- A written word of a data window is read back whole. -/
theorem State.readWindow_writeWindow_same {w : Window} (hdata : w.isData = true) (hw : w.writable = true)
    (haligned : o % 4 = 0) (ho : o < (w.region s.msgBytes).size) : (s.writeWindow w o d).readWindow w o = d := by
  cases w with
  | key => exact State.readWindow_write_key d haligned ho
  | msg => exact State.readWindow_write_msg d
  | iv | state =>
    refine Eq.trans ?_ (Quad.toWord_ofWord d)
    exact congrArg Quad.toWord (Block.column_setColumn_same _ _ _)
  | rkey | trace => cases hw
  | _ => cases hdata

/-! ### The other words -/

theorem State.readWindow_writeWindow_apart {w : Window} (hdata : w.isData = true) (hw : w.writable = true)
    (haligned : o % 4 = 0) (ho : o < (w.region s.msgBytes).size) (haligned' : o' % 4 = 0)
    (ho' : o' < (w.region s.msgBytes).size) (hne : o' ≠ o) :
    (s.writeWindow w o d).readWindow w o' = s.readWindow w o' := by
  have hcolumn : o' / 4 ≠ o / 4 := by omega
  cases w with
  | key =>
    rw [State.readWindow_key haligned', State.readWindow_key haligned']
    change ((s.key.setIfInBounds (o / 4) (Quad.ofWord d))[o' / 4]?.getD _).toWord = _
    rw [Vector.getElem?_setIfInBounds_ne hcolumn.symm]
  | iv | state =>
    change o < 16 at ho
    change o' < 16 at ho'
    exact congrArg Quad.toWord (Block.column_setColumn_other _ _ (by omega) (by omega) hcolumn)
  | msg =>
    have hbyte : ∀ j, j < 4 → (s.memWrite o (Quad.ofWord d).bytes).msgByte (o' + j) = s.msgByte (o' + j) :=
      fun j hj => s.msgByte_memWrite_outside o _ _ (by rw [Quad.bytes_length]; omega)
    rw [State.writeWindow, State.readWindow, show State.msgByte _ o' = _ from hbyte 0 (by omega),
      hbyte 1 (by omega), hbyte 2 (by omega), hbyte 3 (by omega)]
    rfl
  | rkey | trace => cases hw
  | _ => cases hdata

/-- A write to a data window shows in that window alone, but for STATUS and the RKEY view. -/
theorem State.readWindow_writeWindow_other {w w' : Window} (hdata : w.isData = true) (hne : w' ≠ w)
    (hstatus : w' ≠ .status) (hrkey : w' ≠ .rkey) :
    (s.writeWindow w o d).readWindow w' o' = s.readWindow w' o' := by
  cases w with
  | key =>
    cases w' with
    | key => exact absurd rfl hne
    | status => exact absurd rfl hstatus
    | rkey => exact absurd rfl hrkey
    | _ => rfl
  | iv =>
    cases w' with
    | iv => exact absurd rfl hne
    | status => exact absurd rfl hstatus
    | rkey => exact absurd rfl hrkey
    | _ => rfl
  | state =>
    cases w' with
    | state => exact absurd rfl hne
    | status => exact absurd rfl hstatus
    | rkey => exact absurd rfl hrkey
    | _ => rfl
  | msg =>
    cases w' with
    | msg => exact absurd rfl hne
    | status => exact absurd rfl hstatus
    | rkey => exact absurd rfl hrkey
    | _ => rfl
  | rkey | trace => rfl
  | _ => cases hdata

/-- What a write to a data window touches (20_memory.md R97; 41_key_schedule.md R207). -/
theorem State.writeWindow_data_frame {w : Window} (hdata : w.isData = true) : s.writeWindow w o d =
    { s with
      key := (s.writeWindow w o d).key, iv := (s.writeWindow w o d).iv
      stateReg := (s.writeWindow w o d).stateReg, msg := (s.writeWindow w o d).msg
      schedule := (s.writeWindow w o d).schedule } := by
  cases w with
  | key | iv | state | rkey | msg | trace => rfl
  | _ => cases hdata

/-- Every other address reads as before, but STATUS and the RKEY view. -/
theorem State.busRead_after_window_write {a b : BitVec 20} {w : Window} (hidle : s.busy = false)
    (hloc : locate s.msgBytes a = some (w, o)) (hdata : w.isData = true) (hw : w.writable = true) (hne : b ≠ a)
    (hstatus : b ≠ 0x008) (hrkey : ¬ (0x200 ≤ b.toNat ∧ b.toNat < 0x2F0)) :
    (s.writeWindow w o d).busRead b = s.busRead b := by
  have hsize := s.msgBytes_le
  have hbusy : (s.writeWindow w o d).busy = false := by rw [State.writeWindow_data_frame d hdata, hidle]
  have hbytes : (s.writeWindow w o d).msgBytes = s.msgBytes := by
    rw [State.writeWindow_data_frame d hdata]
    rfl
  cases hfound : locate s.msgBytes b with
  | none =>
    rw [State.busRead_of_unmapped hfound, State.busRead_of_unmapped (s := s.writeWindow w o d) (hbytes ▸ hfound)]
  | some found =>
    obtain ⟨w', o'⟩ := found
    obtain ⟨haligned, ho, ha⟩ := (locate_eq_some_iff hsize).mp hloc
    obtain ⟨haligned', ho', hb⟩ := (locate_eq_some_iff hsize).mp hfound
    rw [State.busRead_of_mapped hfound, State.busRead_of_mapped (s := s.writeWindow w o d) (hbytes ▸ hfound),
      hbusy, hidle]
    simp only [Bool.false_and, Bool.false_eq_true, if_false]
    congr 1
    by_cases hsame : w' = w
    · subst hsame
      refine State.readWindow_writeWindow_apart d hdata hw haligned ho haligned' ho' fun heq => hne ?_
      exact BitVec.eq_of_toNat_eq (by rw [ha, hb, heq])
    · refine State.readWindow_writeWindow_other d hdata hsame ?_ ?_ <;> rintro rfl
      · change o' < 4 at ho'
        change b.toNat = 8 + o' at hb
        exact hstatus (BitVec.eq_of_toNat_eq (by rw [hb, show o' = 0 by omega]; rfl))
      · change o' < 240 at ho'
        change b.toNat = 0x200 + o' at hb
        exact hrkey (by omega)

/-- The word at a mapped address of a writable data window after an idle write to it. -/
theorem State.busRead_written {a : BitVec 20} {w : Window} (hidle : s.busy = false)
    (hloc : locate s.msgBytes a = some (w, o)) (hdata : w.isData = true) (hw : w.writable = true) :
    (s.writeWindow w o d).busRead a = ⟨d, false⟩ := by
  obtain ⟨haligned, ho, -⟩ := (locate_eq_some_iff s.msgBytes_le).mp hloc
  have hframe := State.writeWindow_data_frame (s := s) (o := o) d hdata
  have hbytes : (s.writeWindow w o d).msgBytes = s.msgBytes := by
    rw [hframe]
    rfl
  have hbusy : (s.writeWindow w o d).busy = false := by rw [hframe, hidle]
  rw [State.busRead_of_mapped (s := s.writeWindow w o d) (hbytes ▸ hloc), hbusy, Bool.false_and,
    if_neg Bool.false_ne_true, State.readWindow_writeWindow_same d hdata hw haligned ho]

/-- Byte lane j of the written word lands in byte o + j of the window. -/
theorem State.windowByte_written {w : Window} (hdata : w.isData = true) (hw : w.writable = true)
    (haligned : o % 4 = 0) (ho : o < (w.region s.msgBytes).size) {j : Nat} (hj : j < 4) :
    (s.writeWindow w o d).windowByte w (o + j) = d.extractLsb' (8 * j) 8 := by
  rw [← State.readWindow_lane _ hdata haligned hj, State.readWindow_writeWindow_same d hdata hw haligned ho]

/-- An address in the range of a window lies in that window. -/
theorem eq_of_locate_of_range {msgBytes : Nat} {a : BitVec 20} {w : Window} (hsize : msgBytes ≤ 0x8000)
    (hloc : locate msgBytes a = some (w, o)) (w' : Window) (hlow : (w'.region msgBytes).base ≤ a.toNat)
    (hhigh : a.toNat < (w'.region msgBytes).base + (w'.region msgBytes).size) :
    w = w' ∧ a.toNat - (w'.region msgBytes).base = o := by
  have haligned := (covers_of_locate hloc).1
  have hbase := w'.region_base_aligned (msgBytes := msgBytes)
  have hthere : locate msgBytes a = some (w', a.toNat - (w'.region msgBytes).base) :=
    (locate_eq_some_iff hsize).mpr ⟨by omega, by omega, by omega⟩
  cases hloc.symm.trans hthere
  exact ⟨rfl, rfl⟩

end

/-- Settles O49: the address lies in one of the four writable data windows, whose word is written whole. -/
theorem windowWriteReadBack : Obligations.WindowWriteReadBack := by
  intro s a d hidle haligned hrange
  have hsize := s.msgBytes_le
  obtain ⟨w, o, hloc⟩ : ∃ w o, locate s.msgBytes a = some (w, o) :=
    exists_locate_iff.mpr ⟨haligned, by omega⟩
  have hdata : w.isData = true := (isData_iff_of_locate hloc).mpr (by omega)
  have hw : w.writable = true := by
    rw [← Bool.not_eq_false, not_writable_iff_of_locate hsize hloc]
    omega
  obtain ⟨hoffset, ho, -⟩ := (locate_eq_some_iff hsize).mp hloc
  refine ⟨s.writeWindow w o d, State.busWrite_accepted d hloc hw (.inl hidle),
    State.busRead_written d hidle hloc hdata hw, fun j hj => ?lanes,
    fun b => State.busRead_after_window_write d hidle hloc hdata hw, State.writeWindow_data_frame d hdata⟩
  have hlane := State.windowByte_written (s := s) d hdata hw hoffset ho hj
  have hat := eq_of_locate_of_range hsize hloc
  refine ⟨fun hhigh => ?key, fun hlow hhigh => ?iv, fun hlow hhigh => ?state, fun hlow => ?msg⟩
  case key =>
    obtain ⟨rfl, heq⟩ := hat .key (show 0x100 ≤ a.toNat by omega) hhigh
    rw [show a.toNat - 0x100 = o from heq]
    exact hlane
  case iv =>
    obtain ⟨rfl, heq⟩ := hat .iv hlow hhigh
    rw [show a.toNat - 0x120 = o from heq]
    exact hlane
  case state =>
    obtain ⟨rfl, heq⟩ := hat .state hlow hhigh
    rw [show a.toNat - 0x130 = o from heq]
    exact hlane
  case msg =>
    obtain ⟨rfl, heq⟩ := hat .msg hlow (show a.toNat < 0x10000 + s.msgBytes by omega)
    rw [show a.toNat - 0x10000 = o from heq]
    exact hlane

end Sys2Proof.Machine
end

section
/-! Proofs about what a step may change: WERR, DONE and irq, and the registers KEY, IV, STATE and BLKCNT
(10_state.md R34, R36, R40–R42, R50; 60_exceptions.md R380, R381). -/

namespace Sys2Proof.Machine

open Sys2Proof

/-! ### The step of an event from outside -/

section
variable {s t : State} {o : Nat} (d : Word)

theorem eq_of_locate_status {msgBytes : Nat} {a : BitVec 20} (hsize : msgBytes ≤ 0x8000)
    (h : locate msgBytes a = some (.status, o)) : a = 0x008 := by
  obtain ⟨haligned, ho, ha⟩ := (locate_eq_some_iff hsize).mp h
  change o < 4 at ho
  change a.toNat = 8 + o at ha
  exact BitVec.eq_of_toNat_eq (by rw [ha, show o = 0 by omega]; rfl)

theorem eq_of_locate_cmd {msgBytes : Nat} {a : BitVec 20} (hsize : msgBytes ≤ 0x8000)
    (h : locate msgBytes a = some (.cmd, o)) : a = 0x004 := by
  obtain ⟨haligned, ho, ha⟩ := (locate_eq_some_iff hsize).mp h
  change o < 4 at ho
  change a.toNat = 4 + o at ha
  exact BitVec.eq_of_toNat_eq (by rw [ha, show o = 0 by omega]; rfl)

theorem eq_applyEvent_of_step {e : Event} (h : step s = .next t) (hnext : s.nextEvent = e) (he : e ≠ .complete) :
    t = s.afterTake.applyEvent e := by
  have hno : s.completesNext = false := by simp [State.completesNext, hnext, he]
  rw [step_of_event hno, hnext] at h
  cases h
  rfl

theorem eq_written_of_step {a : BitVec 20} {w : Window} (h : step s = .next t) (hnext : s.nextEvent = .busWrite a d)
    (hloc : locate s.msgBytes a = some (w, o)) (hw : w.writable = true)
    (haccept : s.busy = false ∨ w.writableWhileBusy = true) :
    t = { s.afterTake.writeWindow w o d with answer := some (.write false) } := by
  rw [eq_applyEvent_of_step h hnext nofun, State.applyEvent,
    State.busWrite_accepted (s := s.afterTake) d hloc hw haccept]

/-! ### WERR and DONE -/

theorem State.writeWindow_werr (w : Window) :
    (s.writeWindow w o d).werr = if w = .status then s.werr && !d.getLsbD 3 else s.werr := by
  cases w with
  | cfg => rw [State.writeWindow, State.writeCfg_eq]; rfl
  | _ => rfl

theorem State.writeWindow_done (w : Window) :
    (s.writeWindow w o d).done =
      if w = .status then s.done && !d.getLsbD 1 else if w = .cmd then false else s.done := by
  cases w with
  | cfg => rw [State.writeWindow, State.writeCfg_eq]; rfl
  | _ => rfl

/-- An event that is no write and no reset leaves the two sticky bits alone. -/
theorem State.applyEvent_flags {e : Event} (hwrite : ∀ a d, e ≠ .busWrite a d) (hreset : e ≠ .reset) :
    (s.applyEvent e).werr = s.werr ∧ (s.applyEvent e).done = s.done := by
  cases e with
  | busWrite a d => exact absurd rfl (hwrite a d)
  | reset => exact absurd rfl hreset
  | draw =>
    obtain heq | ⟨b, entropy, -, -, heq⟩ := s.drawEvent_cases <;> rw [State.applyEvent, heq] <;> exact ⟨rfl, rfl⟩
  | busRead _ | complete | entropy _ => exact ⟨rfl, rfl⟩

/-- The four ways WERR comes out of a bus write (10_state.md R36). -/
theorem State.busWrite_werr_cases (s : State) (a : BitVec 20) (d : Word) :
    (s.busWrite a d).1.werr = s.werr ∨ a = 0x008 ∧ (s.busWrite a d).1.werr = (s.werr && !d.getLsbD 3) ∨
      s.busy = true ∧ (s.busWrite a d).1.werr = true := by
  obtain heq | ⟨hbusy, heq⟩ | ⟨w, o, hloc, -, -, heq⟩ := s.busWrite_cases a d <;> rw [heq]
  · exact .inl rfl
  · exact .inr (.inr ⟨hbusy, rfl⟩)
  · rw [State.writeWindow_werr]
    split
    case isTrue hstatus =>
      subst hstatus
      exact .inr (.inl ⟨eq_of_locate_status s.msgBytes_le hloc, rfl⟩)
    case isFalse => exact .inl rfl

/-- The ways DONE comes out of a bus write (10_state.md R34). -/
theorem State.busWrite_done_cases (s : State) (a : BitVec 20) (d : Word) :
    (s.busWrite a d).1.done = s.done ∨ a = 0x008 ∧ (s.busWrite a d).1.done = (s.done && !d.getLsbD 1) ∨
      s.busy = false ∧ a = 0x004 ∧ (s.busWrite a d).1.done = false := by
  obtain heq | ⟨-, heq⟩ | ⟨w, o, hloc, -, haccept, heq⟩ := s.busWrite_cases a d <;> rw [heq]
  · exact .inl rfl
  · exact .inl rfl
  · rw [State.writeWindow_done]
    split_ifs with hstatus hcmd
    · subst hstatus
      exact .inr (.inl ⟨eq_of_locate_status s.msgBytes_le hloc, rfl⟩)
    · subst hcmd
      exact .inr (.inr ⟨haccept.resolve_right nofun, eq_of_locate_cmd s.msgBytes_le hloc, rfl⟩)
    · exact .inl rfl

/-- What a step can do to WERR. -/
theorem step_werr_cases (h : step s = .next t) :
    t.werr = s.werr ∨ s.nextEvent = .reset ∧ t.werr = false ∨
      (∃ d, s.nextEvent = .busWrite 0x008 d ∧ t.werr = (s.werr && !d.getLsbD 3)) ∨
      s.busy = true ∧ (∃ a d, s.nextEvent = .busWrite a d) ∧ t.werr = true := by
  obtain ⟨-, e, -, rfl⟩ | ⟨-, rfl⟩ | ⟨-, i, -, rfl⟩ | ⟨-, rfl⟩ := step_outcomes h
  · exact .inl rfl
  · exact .inl rfl
  · exact .inl (execute_werr _ i)
  · cases hnext : s.nextEvent with
    | busWrite a d =>
      obtain heq | ⟨rfl, heq⟩ | ⟨hbusy, heq⟩ := s.afterTake.busWrite_werr_cases a d
      · exact .inl heq
      · exact .inr (.inr (.inl ⟨d, rfl, heq⟩))
      · exact .inr (.inr (.inr ⟨hbusy, ⟨a, d, rfl⟩, heq⟩))
    | reset => exact .inr (.inl ⟨rfl, rfl⟩)
    | draw | busRead _ | complete | entropy _ => exact .inl (State.applyEvent_flags (by nofun) (by nofun)).1

/-- What a step can do to DONE. -/
theorem step_done_cases (h : step s = .next t) :
    t.done = s.done ∨ s.nextEvent = .reset ∧ t.done = false ∨
      (∃ d, s.nextEvent = .busWrite 0x008 d ∧ t.done = (s.done && !d.getLsbD 1)) ∨
      (s.busy = false ∧ (∃ w, s.nextEvent = .busWrite 0x004 w) ∧ t.done = false) ∨
      s.completesNext = true ∧ t.busy = false ∧ t.done = true := by
  obtain ⟨hc, e, -, rfl⟩ | ⟨-, rfl⟩ | ⟨hc, i, -, rfl⟩ | ⟨-, rfl⟩ := step_outcomes h
  · exact .inr (.inr (.inr (.inr ⟨hc, rfl, rfl⟩)))
  · exact .inl rfl
  · exact .inr (.inr (.inr (.inr ⟨hc, execute_busy _ i, execute_done _ i⟩)))
  · cases hnext : s.nextEvent with
    | busWrite a d =>
      obtain heq | ⟨rfl, heq⟩ | ⟨hidle, rfl, heq⟩ := s.afterTake.busWrite_done_cases a d
      · exact .inl heq
      · exact .inr (.inr (.inl ⟨d, rfl, heq⟩))
      · exact .inr (.inr (.inr (.inl ⟨hidle, ⟨d, rfl⟩, heq⟩)))
    | reset => exact .inr (.inl ⟨rfl, rfl⟩)
    | draw | busRead _ | complete | entropy _ => exact .inl (State.applyEvent_flags (by nofun) (by nofun)).2

end

/-- Settles O51: the cases of a step for WERR and for DONE, read in both directions. -/
theorem stickyBits : Obligations.StickyBits := by
  intro s t h
  refine ⟨fun hs ht => ?werrFalls, fun hs ht => ?werrRises, fun hs ht => ?doneFalls, fun hs ht => ?doneRises⟩
  case werrFalls =>
    obtain heq | ⟨hreset, -⟩ | ⟨d, hnext, heq⟩ | ⟨-, -, heq⟩ := step_werr_cases h
    · simp [heq, hs] at ht
    · exact .inr hreset
    · exact .inl ⟨d, hnext, by simpa [hs, ht] using heq⟩
    · simp [heq] at ht
  case werrRises =>
    obtain heq | ⟨-, heq⟩ | ⟨d, -, heq⟩ | ⟨hbusy, hwrite, -⟩ := step_werr_cases h
    · simp [heq, hs] at ht
    · simp [heq] at ht
    · simp [heq, hs] at ht
    · exact ⟨hbusy, hwrite⟩
  case doneFalls =>
    obtain heq | ⟨hreset, -⟩ | ⟨d, hnext, heq⟩ | ⟨hidle, hwrite, -⟩ | ⟨-, -, heq⟩ := step_done_cases h
    · simp [heq, hs] at ht
    · exact .inr (.inr hreset)
    · exact .inr (.inl ⟨d, hnext, by simpa [hs, ht] using heq⟩)
    · exact .inl ⟨hidle, hwrite⟩
    · simp [heq] at ht
  case doneRises =>
    obtain heq | ⟨-, heq⟩ | ⟨d, -, heq⟩ | ⟨-, -, heq⟩ | ⟨hc, hidle, -⟩ := step_done_cases h
    · simp [heq, hs] at ht
    · simp [heq] at ht
    · simp [heq, hs] at ht
    · simp [heq] at ht
    · exact ⟨hc, hidle⟩

/-! ### The interrupt -/

/-- A command that ends sets DONE and leaves DONE_IE alone. -/
theorem irq_of_completion {s t : State} (h : step s = .next t) (hc : s.completesNext = true)
    (hend : t.busy = false) : t.irq = s.doneIe := by
  obtain ⟨-, e, -, rfl⟩ | ⟨-, rfl⟩ | ⟨-, i, -, rfl⟩ | ⟨hno, -⟩ := step_outcomes h
  · exact Bool.true_and _
  · exact absurd hend (by simp [State.afterTake, (busy_of_completesNext hc).1])
  · rw [State.irq, execute_done, execute_doneIe]
    exact Bool.true_and _
  · exact absurd hc (by simp [hno])

/-- Settles O52: irq is read off DONE and DONE_IE, which each of the events named writes. -/
theorem interruptLevel : Obligations.InterruptLevel := by
  intro s t h
  refine ⟨rfl, irq_of_completion h, fun d hnext => ?irqEn, fun w hnext hidle => ?cmd, fun d hnext hclear => ?status,
    fun hnext => ?reset⟩
  case irqEn => rw [eq_written_of_step d h hnext (locate_irqEn _) rfl (.inr rfl)]; rfl
  case cmd => rw [eq_written_of_step w h hnext (locate_cmd _) rfl (.inl hidle)]; rfl
  case status =>
    rw [eq_written_of_step d h hnext (locate_status _) rfl (.inr rfl)]
    simp [State.irq, State.writeWindow, State.writeStatus, hclear]
  case reset => rw [eq_applyEvent_of_step h hnext nofun]; rfl

/-! ### The registers KEY, IV, STATE and BLKCNT -/

/-- The part of the state that f reads is written by commands that run, by bus writes that take effect and by a
reset only. -/
structure WrittenByCommand {α : Type} (f : State → α) : Prop where
  take : ∀ s, f s.afterTake = f s
  raise : ∀ s e, f (s.raise e) = f s
  answer : ∀ s a, f { s with answer := a } = f s
  dropped : ∀ s, f { s with werr := true } = f s
  offer : ∀ s entropy, f { s with entropy := entropy } = f s
  draw : ∀ s entropy bs, f { s with entropy := entropy, taken := bs } = f s

section
variable {α : Type} {f : State → α} {s t : State}

/-- An event that is no reset changes the part only as a bus write that takes effect does. -/
theorem WrittenByCommand.event (hf : WrittenByCommand f) {e : Event} (hreset : e ≠ .reset)
    (hne : f (s.applyEvent e) ≠ f s) : ∃ a d w o, e = .busWrite a d ∧ locate s.msgBytes a = some (w, o) ∧
      (s.busy = false ∨ w.writableWhileBusy = true) ∧ f (s.writeWindow w o d) ≠ f s := by
  cases e with
  | busRead a => exact absurd (hf.answer _ _) hne
  | complete => exact absurd rfl hne
  | reset => exact absurd rfl hreset
  | entropy byte => exact absurd (hf.offer _ _) hne
  | draw =>
    obtain heq | ⟨b, entropy, -, -, heq⟩ := s.drawEvent_cases <;> rw [State.applyEvent, heq] at hne
    · exact absurd rfl hne
    · exact absurd (hf.draw _ _ _) hne
  | busWrite a d =>
    have hwrite : f (s.busWrite a d).1 ≠ f s := fun heq => hne ((hf.answer _ _).trans heq)
    obtain heq | ⟨-, heq⟩ | ⟨w, o, hloc, -, haccept, heq⟩ := s.busWrite_cases a d <;> rw [heq] at hwrite
    · exact absurd rfl hwrite
    · exact absurd (hf.dropped s) hwrite
    · exact ⟨a, d, w, o, rfl, hloc, haccept, hwrite⟩

/-- A step that is no reset changes the part as a bus write that takes effect does, or as a command that runs. -/
theorem WrittenByCommand.step (hf : WrittenByCommand f) (h : step s = .next t) (hreset : s.nextEvent ≠ .reset)
    (hne : f t ≠ f s) :
    (∃ a d w o, s.nextEvent = .busWrite a d ∧ locate s.msgBytes a = some (w, o) ∧
        (s.busy = false ∨ w.writableWhileBusy = true) ∧
        f (s.afterTake.writeWindow w o d) ≠ f s.afterTake) ∨
      s.completesNext = true ∧ ∃ i, decode s.cur = .ok i ∧ f (execute i s.afterTake) ≠ f s.afterTake := by
  rw [← hf.take s] at hne
  obtain ⟨-, e, -, rfl⟩ | ⟨-, rfl⟩ | ⟨hc, i, hruns, rfl⟩ | ⟨-, rfl⟩ := step_outcomes h
  · exact absurd (hf.raise _ _) hne
  · exact absurd rfl hne
  · exact .inr ⟨hc, i, hruns.1, hne⟩
  · exact .inl (hf.event hreset hne)

/-- The address of a located window lies in the window's range (20_memory.md R93). -/
theorem range_of_locate {msgBytes : Nat} {a : BitVec 20} {w : Window} {o : Nat} (hsize : msgBytes ≤ 0x8000)
    (h : locate msgBytes a = some (w, o)) : (w.region msgBytes).base ≤ a.toNat ∧
      a.toNat < (w.region msgBytes).base + (w.region msgBytes).size := by
  obtain ⟨-, ho, ha⟩ := (locate_eq_some_iff hsize).mp h
  omega

end

section
variable {s : State} {w : Window} {o : Nat} {d : Word}

theorem eq_key_of_writeWindow (hne : (s.writeWindow w o d).key ≠ s.key) : w = .key := by
  cases w with
  | key => rfl
  | cfg => exact absurd (congrArg State.key (s.writeCfg_eq d)) hne
  | _ => exact absurd rfl hne

theorem eq_iv_of_writeWindow (hne : (s.writeWindow w o d).iv ≠ s.iv) : w = .iv := by
  cases w with
  | iv => rfl
  | cfg => exact absurd (congrArg State.iv (s.writeCfg_eq d)) hne
  | _ => exact absurd rfl hne

theorem eq_state_of_writeWindow (hne : (s.writeWindow w o d).stateReg ≠ s.stateReg) : w = .state := by
  cases w with
  | state => rfl
  | cfg => exact absurd (congrArg State.stateReg (s.writeCfg_eq d)) hne
  | _ => exact absurd rfl hne

end

section
variable {s : State} {i : Instr}

theorem execute_unpad_frame (s : State) : execute .unpad s =
    { s with
      msgLen := (execute .unpad s).msgLen, error := (execute .unpad s).error, busy := false, done := true } := by
  obtain ⟨f, -, heq⟩ | ⟨m, n, -, heq⟩ := execute_unpad_cases s <;> rw [heq] <;> rfl

theorem writesKey_of_execute (hne : (execute i s).key ≠ s.key) : i = .genKey ∨ i = .clear := by
  cases i with
  | genKey => exact .inl rfl
  | clear => exact .inr rfl
  | addRoundKey rk => exact absurd (congrArg State.key (execute_addRoundKey_frame s rk)) hne
  | encBlock => exact absurd (congrArg State.key (execute_encBlock_frame s)) hne
  | decBlock => exact absurd (congrArg State.key (execute_decBlock_frame s)) hne
  | cbcEnc => exact absurd (congrArg State.key (execute_cbcEnc_frame s)) hne
  | cbcDec => exact absurd (congrArg State.key (execute_cbcDec_frame s)) hne
  | unpad => exact absurd (congrArg State.key (execute_unpad_frame s)) hne
  | _ => exact absurd rfl hne

theorem writesIv_of_execute (hne : (execute i s).iv ≠ s.iv) :
    i = .cbcEnc ∧ s.ivLen = 0 ∨ i = .genIv ∨ i = .clear := by
  cases i with
  | genIv => exact .inr (.inl rfl)
  | clear => exact .inr (.inr rfl)
  | cbcEnc =>
    refine .inl ⟨rfl, ?_⟩
    by_contra hsupplied
    exact hne ((congrArg State.iv (execute_cbcEnc_frame s)).trans (if_neg hsupplied))
  | addRoundKey rk => exact absurd (congrArg State.iv (execute_addRoundKey_frame s rk)) hne
  | encBlock => exact absurd (congrArg State.iv (execute_encBlock_frame s)) hne
  | decBlock => exact absurd (congrArg State.iv (execute_decBlock_frame s)) hne
  | cbcDec => exact absurd (congrArg State.iv (execute_cbcDec_frame s)) hne
  | unpad => exact absurd (congrArg State.iv (execute_unpad_frame s)) hne
  | _ => exact absurd rfl hne

theorem writesState_of_execute (hne : (execute i s).stateReg ≠ s.stateReg) :
    i = .subBytes ∨ i = .invSubBytes ∨ i = .shiftRows ∨ i = .invShiftRows ∨ i = .mixColumns ∨
      i = .invMixColumns ∨ (∃ rk, i = .addRoundKey rk) ∨ i = .clear := by
  cases i with
  | subBytes | invSubBytes | shiftRows | invShiftRows | mixColumns | invMixColumns | addRoundKey rk | clear =>
    simp
  | encBlock => exact absurd (congrArg State.stateReg (execute_encBlock_frame s)) hne
  | decBlock => exact absurd (congrArg State.stateReg (execute_decBlock_frame s)) hne
  | cbcEnc => exact absurd (congrArg State.stateReg (execute_cbcEnc_frame s)) hne
  | cbcDec => exact absurd (congrArg State.stateReg (execute_cbcDec_frame s)) hne
  | unpad => exact absurd (congrArg State.stateReg (execute_unpad_frame s)) hne
  | _ => exact absurd rfl hne

/-- The two counts BLKCNT shows (10_state.md R50). -/
def State.counts (s : State) : BitVec 16 × BitVec 16 := (s.blocks, s.trcnt)

theorem writesCounts_of_execute (hne : (execute i s).counts ≠ s.counts) :
    i = .cbcEnc ∨ i = .cbcDec ∨ i = .clear := by
  cases i with
  | cbcEnc | cbcDec | clear => simp
  | addRoundKey rk => exact absurd (congrArg State.counts (execute_addRoundKey_frame s rk)) hne
  | encBlock => exact absurd (congrArg State.counts (execute_encBlock_frame s)) hne
  | decBlock => exact absurd (congrArg State.counts (execute_decBlock_frame s)) hne
  | unpad => exact absurd (congrArg State.counts (execute_unpad_frame s)) hne
  | _ => exact absurd rfl hne

theorem State.writeWindow_counts (s : State) (w : Window) (o : Nat) (d : Word) :
    (s.writeWindow w o d).counts = s.counts := by
  cases w with
  | cfg => exact (congrArg State.counts (s.writeCfg_eq d)).trans rfl
  | _ => rfl

theorem key_writtenByCommand : WrittenByCommand State.key :=
  ⟨fun _ => rfl, fun _ _ => rfl, fun _ _ => rfl, fun _ => rfl, fun _ _ => rfl, fun _ _ _ => rfl⟩

theorem iv_writtenByCommand : WrittenByCommand State.iv :=
  ⟨fun _ => rfl, fun _ _ => rfl, fun _ _ => rfl, fun _ => rfl, fun _ _ => rfl, fun _ _ _ => rfl⟩

theorem stateReg_writtenByCommand : WrittenByCommand State.stateReg :=
  ⟨fun _ => rfl, fun _ _ => rfl, fun _ _ => rfl, fun _ => rfl, fun _ _ => rfl, fun _ _ _ => rfl⟩

theorem counts_writtenByCommand : WrittenByCommand State.counts :=
  ⟨fun _ => rfl, fun _ _ => rfl, fun _ _ => rfl, fun _ => rfl, fun _ _ => rfl, fun _ _ _ => rfl⟩

end

/-- Settles O53: of the bus writes only one to the register's own window changes it, and of the commands only those
that name it as a result. -/
theorem registerWriters : Obligations.RegisterWriters := by
  intro s t h hreset
  have hsize := s.msgBytes_le
  refine ⟨fun hne => ?key, fun hne => ?iv, fun hne => ?state, fun hne => ?counts⟩
  case key =>
    obtain ⟨a, d, w, o, hnext, hloc, haccept, hwrite⟩ | ⟨hc, i, hd, hrun⟩ := key_writtenByCommand.step h hreset hne
    · obtain rfl := eq_key_of_writeWindow hwrite
      exact .inl ⟨haccept.resolve_right nofun, a, d, hnext, range_of_locate hsize hloc⟩
    · obtain rfl | rfl := writesKey_of_execute hrun
      · exact .inr ⟨hc, .inl hd⟩
      · exact .inr ⟨hc, .inr hd⟩
  case iv =>
    obtain ⟨a, d, w, o, hnext, hloc, haccept, hwrite⟩ | ⟨hc, i, hd, hrun⟩ := iv_writtenByCommand.step h hreset hne
    · obtain rfl := eq_iv_of_writeWindow hwrite
      exact .inl ⟨haccept.resolve_right nofun, a, d, hnext, range_of_locate hsize hloc⟩
    · obtain ⟨rfl, hiv⟩ | rfl | rfl := writesIv_of_execute hrun
      · exact .inr ⟨hc, .inl ⟨hd, hiv⟩⟩
      · exact .inr ⟨hc, .inr (.inl hd)⟩
      · exact .inr ⟨hc, .inr (.inr hd)⟩
  case state =>
    obtain ⟨a, d, w, o, hnext, hloc, haccept, hwrite⟩ | ⟨hc, i, hd, hrun⟩ :=
      stateReg_writtenByCommand.step h hreset hne
    · obtain rfl := eq_state_of_writeWindow hwrite
      exact .inl ⟨haccept.resolve_right nofun, a, d, hnext, range_of_locate hsize hloc⟩
    · exact .inr ⟨hc, i, hd, writesState_of_execute hrun⟩
  case counts =>
    have hcounts : t.counts ≠ s.counts := by
      simpa [State.counts, imp_iff_not_or] using hne
    obtain ⟨a, d, w, o, -, -, -, hwrite⟩ | ⟨hc, i, hd, hrun⟩ := counts_writtenByCommand.step h hreset hcounts
    · exact absurd (s.afterTake.writeWindow_counts w o d) hwrite
    · obtain rfl | rfl | rfl := writesCounts_of_execute hrun
      · exact ⟨hc, .inl hd⟩
      · exact ⟨hc, .inr (.inl hd)⟩
      · exact ⟨hc, .inr (.inr hd)⟩

end Sys2Proof.Machine
end
